-- ==== Sys2Proof/Word.lean ====
section
/-! DEFINITION. The two word widths of the core (00_scope.md rules R6 and R7): the `u8` that the MMU moves and the 8-bit
registers hold, and the `u16` of addresses, `pc`, `sp` and the register pairs. Arithmetic on both wraps (rule R7), which
is what `BitVec` addition and subtraction do. -/

namespace Sys2Proof

/-- `u8` (R6 `DATA_WIDTH`, R7). -/
abbrev Byte := BitVec 8

/-- `u16` (R6 `PC_WIDTH`, `SP_WIDTH`, `ADDR_WIDTH`, R7). Every value is a valid address (R50). -/
abbrev Word := BitVec 16

end Sys2Proof
end

