-- ==== Sys2Proof/Config.lean ====
section
/-! DEFINITION. What is fixed for one machine and never written by a step: the block's implementation parameters
(00_scope.md rule R6), the interrupt sources with their masks and vectors (60_exceptions.md rules R400 to R402), the
launch values of the registers (70_reset_and_hazards.md rule R452), what an MMU is asked (20_memory.md rules R51, R60), and the two
parameters that the spec leaves to the platform without a value: HALT_TICK and the answers of the MMU. -/

namespace Sys2Proof

/-- The launch values `InitRegs`, an argument of the model (R452). -/
structure InitRegs where
  a  : Byte
  f  : Byte
  b  : Byte
  c  : Byte
  d  : Byte
  e  : Byte
  h  : Byte
  l  : Byte
  sp : Word
  pc : Word
deriving DecidableEq, Repr

/-- The profile `PostBootDMG` of R452, value by value. -/
def InitRegs.postBootDMG : InitRegs :=
  { a := 0x01, f := 0xB0, b := 0x00, c := 0x13, d := 0x00, e := 0xD8, h := 0x01, l := 0x4D, sp := 0xFFFE, pc := 0x0100 }

/-- The profile `PowerOn` of R452: `pc` is 0x0000 and every other register is any value, here the argument's. -/
def InitRegs.powerOn (anyValues : InitRegs) : InitRegs := { anyValues with pc := 0x0000 }

/-- The five interrupt sources (R400), in priority order, highest first. -/
inductive Source where
  | vblank
  | lcdStat
  | timer
  | serial
  | joypad
deriving DecidableEq, Repr

/-- The fixed priority order of R400: VBlank > LCD/STAT > Timer > Serial > Joypad. -/
def Source.inPriorityOrder : List Source := [.vblank, .lcdStat, .timer, .serial, .joypad]

/-- One access of the MMU contract (R51), with the byte that was moved. -/
inductive BusEvent where
  | read (addr : Word) (value : Byte)
  | write (addr : Word) (value : Byte)
deriving DecidableEq, Repr

/-- Everything an MMU is told: an access of the core (R51), or a step of the devices behind it between two calls (R455). -/
inductive MmuEvent where
  | access (e : BusEvent)
  /-- A device or DMA writes a byte (R455). -/
  | deviceWrite (addr : Word) (value : Byte)
  /-- A device raises a source's pending bit (R411). -/
  | request (k : Source)
  /-- The host advances the devices by a number of cycles (R455). -/
  | advance (cycles : Nat)
deriving DecidableEq, Repr

namespace Config

/-- `PREFIX_BYTE` (R6, R81). -/
def prefixByte : Byte := 0xCB

/-- `IE_ADDR`, the interrupt enable register (R401). -/
def ieAddr : Word := 0xFFFF

/-- `IF_ADDR`, the interrupt flag (pending) register (R401). -/
def ifAddr : Word := 0xFF0F

/-- The high page that LDH and LD (C) address (R61, R95). -/
def highPage : Word := 0xFF00

/-- The mask `m_k` of a source in IE and in IF (R400). -/
def sourceMask : Source → Byte
  | .vblank  => 0x01
  | .lcdStat => 0x02
  | .timer   => 0x04
  | .serial  => 0x08
  | .joypad  => 0x10

/-- `VECTOR[k]`, used verbatim as the jump target (R400, R402). -/
def sourceVector : Source → Word
  | .vblank  => 0x0040
  | .lcdStat => 0x0048
  | .timer   => 0x0050
  | .serial  => 0x0058
  | .joypad  => 0x0060

/-- What a byte of memory that nothing has written reads as. DESIGN CHOICE (log 3), unsafe: the launch contents of memory
are the MMU's (R450); 0x00 is what the spec's own test vectors fill memory with. -/
def unlistedByte : Byte := 0x00

/-- `HALT_TICK` (R6, R455, decision D29): the cycles by which the host advances its devices for a call that returned 0.
The spec leaves it OPEN, so it has no body here and no statement can rest on a value of it (log 8). -/
opaque haltTick : Nat

/-- What an MMU of the platform's own answers to a read of an address, after everything it has been told (R60, decision D15). The spec
leaves the MMU OPEN, so this has no body: it stands for every MMU, one whose reads have side effects or whose locations do not read back
what was written among them, and a claim about one of them takes what that MMU does as a premise on this constant (log 1). -/
opaque mmuAnswer : List MmuEvent → Word → Byte

end Config
end Sys2Proof
end

