-- ==== Sys2Proof/Syntax.lean ====
section
/-! DEFINITION. The instructions: one constructor per row of spec/opcode_table.json (256 base rows, 256 prefixed rows), with the row's
immediate as its argument (30_encoding.md rule R95), and the operand codes of rules R90 to R94 as types. After the inductive, one
function per family of rows names the family's rows by their operand codes; statements quantify over the operand through it. -/

namespace Sys2Proof

/-- The register operands of R90 (code 110, the memory byte at HL, has rows of its own). -/
inductive Reg8 where
  | b | c | d | e | h | l | a
deriving DecidableEq, Repr

/-- Group 1 of R91. -/
inductive Pair where
  | bc | de | hl | sp
deriving DecidableEq, Repr

/-- Group 2 of R91. -/
inductive StackPair where
  | bc | de | hl | af
deriving DecidableEq, Repr

/-- The condition codes of R92. -/
inductive Cond where
  | nz | z | nc | c
deriving DecidableEq, Repr

/-- The operations of R93. -/
inductive AluOp where
  | add | adc | sub | sbc | and | xor | or | cp
deriving DecidableEq, Repr

/-- The prefixed rotates and shifts of R94. -/
inductive ShiftOp where
  | rlc | rrc | rl | rr | sla | sra | swap | srl
deriving DecidableEq, Repr

/-- The bit numbers of BIT, RES and SET (R94, R95). -/
inductive BitIndex where
  | b0 | b1 | b2 | b3 | b4 | b5 | b6 | b7
deriving DecidableEq, Repr

/-- The bit number as a number. -/
def BitIndex.toNat : BitIndex → Nat
  | .b0 => 0
  | .b1 => 1
  | .b2 => 2
  | .b3 => 3
  | .b4 => 4
  | .b5 => 5
  | .b6 => 6
  | .b7 => 7

/-- The targets of RST (R95, R341). -/
inductive RstTarget where
  | t00 | t08 | t10 | t18 | t20 | t28 | t30 | t38
deriving DecidableEq, Repr

/-- The address of a target of RST (R341). -/
def RstTarget.addr : RstTarget → Word
  | .t00 => 0x0000
  | .t08 => 0x0008
  | .t10 => 0x0010
  | .t18 => 0x0018
  | .t20 => 0x0020
  | .t28 => 0x0028
  | .t30 => 0x0030
  | .t38 => 0x0038

/-- The eleven illegal base bytes (R96). -/
inductive IllegalByte where
  | xD3 | xDB | xDD | xE3 | xE4 | xEB | xEC | xED | xF4 | xFC | xFD
deriving DecidableEq, Repr

/-- The rows of spec/opcode_table.json. -/
inductive Instr where
  -- the rows with an immediate byte or word (R95), of the base table
  | ldBcN16 (n : Word)
  | ldBN8 (n : Byte)
  | ldIndN16Sp (n : Word)
  | ldCN8 (n : Byte)
  | stop (n : Byte)
  | ldDeN16 (n : Word)
  | ldDN8 (n : Byte)
  | jrE8 (e : Byte)
  | ldEN8 (n : Byte)
  | jrNzE8 (e : Byte)
  | ldHlN16 (n : Word)
  | ldHN8 (n : Byte)
  | jrZE8 (e : Byte)
  | ldLN8 (n : Byte)
  | jrNcE8 (e : Byte)
  | ldSpN16 (n : Word)
  | ldIndHlN8 (n : Byte)
  | jrCE8 (e : Byte)
  | ldAN8 (n : Byte)
  | jpNzN16 (n : Word)
  | jpN16 (n : Word)
  | callNzN16 (n : Word)
  | addAN8 (n : Byte)
  | jpZN16 (n : Word)
  | callZN16 (n : Word)
  | callN16 (n : Word)
  | adcAN8 (n : Byte)
  | jpNcN16 (n : Word)
  | callNcN16 (n : Word)
  | subN8 (n : Byte)
  | jpCN16 (n : Word)
  | callCN16 (n : Word)
  | sbcAN8 (n : Byte)
  | ldhIndN8A (n : Byte)
  | andN8 (n : Byte)
  | addSpE8 (e : Byte)
  | ldIndN16A (n : Word)
  | xorN8 (n : Byte)
  | ldhAIndN8 (n : Byte)
  | orN8 (n : Byte)
  | ldHlSpE8 (e : Byte)
  | ldAIndN16 (n : Word)
  | cpN8 (n : Byte)
  -- the other rows of the base table (R89 to R96)
  | nop
  | ldIndBcA
  | incBc
  | incB
  | decB
  | rlca
  | addHlBc
  | ldAIndBc
  | decBc
  | incC
  | decC
  | rrca
  | ldIndDeA
  | incDe
  | incD
  | decD
  | rla
  | addHlDe
  | ldAIndDe
  | decDe
  | incE
  | decE
  | rra
  | ldIndHliA
  | incHl
  | incH
  | decH
  | daa
  | addHlHl
  | ldAIndHli
  | decHl
  | incL
  | decL
  | cpl
  | ldIndHldA
  | incSp
  | incIndHl
  | decIndHl
  | scf
  | addHlSp
  | ldAIndHld
  | decSp
  | incA
  | decA
  | ccf
  | ldBB
  | ldBC
  | ldBD
  | ldBE
  | ldBH
  | ldBL
  | ldBIndHl
  | ldBA
  | ldCB
  | ldCC
  | ldCD
  | ldCE
  | ldCH
  | ldCL
  | ldCIndHl
  | ldCA
  | ldDB
  | ldDC
  | ldDD
  | ldDE
  | ldDH
  | ldDL
  | ldDIndHl
  | ldDA
  | ldEB
  | ldEC
  | ldED
  | ldEE
  | ldEH
  | ldEL
  | ldEIndHl
  | ldEA
  | ldHB
  | ldHC
  | ldHD
  | ldHE
  | ldHH
  | ldHL
  | ldHIndHl
  | ldHA
  | ldLB
  | ldLC
  | ldLD
  | ldLE
  | ldLH
  | ldLL
  | ldLIndHl
  | ldLA
  | ldIndHlB
  | ldIndHlC
  | ldIndHlD
  | ldIndHlE
  | ldIndHlH
  | ldIndHlL
  | halt
  | ldIndHlA
  | ldAB
  | ldAC
  | ldAD
  | ldAE
  | ldAH
  | ldAL
  | ldAIndHl
  | ldAA
  | addAB
  | addAC
  | addAD
  | addAE
  | addAH
  | addAL
  | addAIndHl
  | addAA
  | adcAB
  | adcAC
  | adcAD
  | adcAE
  | adcAH
  | adcAL
  | adcAIndHl
  | adcAA
  | subB
  | subC
  | subD
  | subE
  | subH
  | subL
  | subIndHl
  | subA
  | sbcAB
  | sbcAC
  | sbcAD
  | sbcAE
  | sbcAH
  | sbcAL
  | sbcAIndHl
  | sbcAA
  | andB
  | andC
  | andD
  | andE
  | andH
  | andL
  | andIndHl
  | andA
  | xorB
  | xorC
  | xorD
  | xorE
  | xorH
  | xorL
  | xorIndHl
  | xorA
  | orB
  | orC
  | orD
  | orE
  | orH
  | orL
  | orIndHl
  | orA
  | cpB
  | cpC
  | cpD
  | cpE
  | cpH
  | cpL
  | cpIndHl
  | cpA
  | retNz
  | popBc
  | pushBc
  | rst00
  | retZ
  | ret
  | prefixCb
  | rst08
  | retNc
  | popDe
  | illegalD3
  | pushDe
  | rst10
  | retC
  | reti
  | illegalDB
  | illegalDD
  | rst18
  | popHl
  | ldIndCA
  | illegalE3
  | illegalE4
  | pushHl
  | rst20
  | jpHl
  | illegalEB
  | illegalEC
  | illegalED
  | rst28
  | popAf
  | ldAIndC
  | di
  | illegalF4
  | pushAf
  | rst30
  | ldSpHl
  | ei
  | illegalFC
  | illegalFD
  | rst38
  -- the prefixed table (R94)
  | rlcB
  | rlcC
  | rlcD
  | rlcE
  | rlcH
  | rlcL
  | rlcIndHl
  | rlcA
  | rrcB
  | rrcC
  | rrcD
  | rrcE
  | rrcH
  | rrcL
  | rrcIndHl
  | rrcA
  | rlB
  | rlC
  | rlD
  | rlE
  | rlH
  | rlL
  | rlIndHl
  | rlA
  | rrB
  | rrC
  | rrD
  | rrE
  | rrH
  | rrL
  | rrIndHl
  | rrA
  | slaB
  | slaC
  | slaD
  | slaE
  | slaH
  | slaL
  | slaIndHl
  | slaA
  | sraB
  | sraC
  | sraD
  | sraE
  | sraH
  | sraL
  | sraIndHl
  | sraA
  | swapB
  | swapC
  | swapD
  | swapE
  | swapH
  | swapL
  | swapIndHl
  | swapA
  | srlB
  | srlC
  | srlD
  | srlE
  | srlH
  | srlL
  | srlIndHl
  | srlA
  | bit0B
  | bit0C
  | bit0D
  | bit0E
  | bit0H
  | bit0L
  | bit0IndHl
  | bit0A
  | bit1B
  | bit1C
  | bit1D
  | bit1E
  | bit1H
  | bit1L
  | bit1IndHl
  | bit1A
  | bit2B
  | bit2C
  | bit2D
  | bit2E
  | bit2H
  | bit2L
  | bit2IndHl
  | bit2A
  | bit3B
  | bit3C
  | bit3D
  | bit3E
  | bit3H
  | bit3L
  | bit3IndHl
  | bit3A
  | bit4B
  | bit4C
  | bit4D
  | bit4E
  | bit4H
  | bit4L
  | bit4IndHl
  | bit4A
  | bit5B
  | bit5C
  | bit5D
  | bit5E
  | bit5H
  | bit5L
  | bit5IndHl
  | bit5A
  | bit6B
  | bit6C
  | bit6D
  | bit6E
  | bit6H
  | bit6L
  | bit6IndHl
  | bit6A
  | bit7B
  | bit7C
  | bit7D
  | bit7E
  | bit7H
  | bit7L
  | bit7IndHl
  | bit7A
  | res0B
  | res0C
  | res0D
  | res0E
  | res0H
  | res0L
  | res0IndHl
  | res0A
  | res1B
  | res1C
  | res1D
  | res1E
  | res1H
  | res1L
  | res1IndHl
  | res1A
  | res2B
  | res2C
  | res2D
  | res2E
  | res2H
  | res2L
  | res2IndHl
  | res2A
  | res3B
  | res3C
  | res3D
  | res3E
  | res3H
  | res3L
  | res3IndHl
  | res3A
  | res4B
  | res4C
  | res4D
  | res4E
  | res4H
  | res4L
  | res4IndHl
  | res4A
  | res5B
  | res5C
  | res5D
  | res5E
  | res5H
  | res5L
  | res5IndHl
  | res5A
  | res6B
  | res6C
  | res6D
  | res6E
  | res6H
  | res6L
  | res6IndHl
  | res6A
  | res7B
  | res7C
  | res7D
  | res7E
  | res7H
  | res7L
  | res7IndHl
  | res7A
  | set0B
  | set0C
  | set0D
  | set0E
  | set0H
  | set0L
  | set0IndHl
  | set0A
  | set1B
  | set1C
  | set1D
  | set1E
  | set1H
  | set1L
  | set1IndHl
  | set1A
  | set2B
  | set2C
  | set2D
  | set2E
  | set2H
  | set2L
  | set2IndHl
  | set2A
  | set3B
  | set3C
  | set3D
  | set3E
  | set3H
  | set3L
  | set3IndHl
  | set3A
  | set4B
  | set4C
  | set4D
  | set4E
  | set4H
  | set4L
  | set4IndHl
  | set4A
  | set5B
  | set5C
  | set5D
  | set5E
  | set5H
  | set5L
  | set5IndHl
  | set5A
  | set6B
  | set6C
  | set6D
  | set6E
  | set6H
  | set6L
  | set6IndHl
  | set6A
  | set7B
  | set7C
  | set7D
  | set7E
  | set7H
  | set7L
  | set7IndHl
  | set7A
deriving DecidableEq, Repr

namespace Instr

/-- R230, `LD r16,n16`. -/
def ldPairImm : Pair → Word → Instr
  | .bc, n => .ldBcN16 n
  | .de, n => .ldDeN16 n
  | .hl, n => .ldHlN16 n
  | .sp, n => .ldSpN16 n

/-- R291, `INC r16`. -/
def incPair : Pair → Instr
  | .bc => .incBc
  | .de => .incDe
  | .hl => .incHl
  | .sp => .incSp

/-- R275, `INC r`. -/
def incReg : Reg8 → Instr
  | .b => .incB
  | .c => .incC
  | .d => .incD
  | .e => .incE
  | .h => .incH
  | .l => .incL
  | .a => .incA

/-- R277, `DEC r`. -/
def decReg : Reg8 → Instr
  | .b => .decB
  | .c => .decC
  | .d => .decD
  | .e => .decE
  | .h => .decH
  | .l => .decL
  | .a => .decA

/-- R202, `LD r,n8`. -/
def ldRegImm : Reg8 → Byte → Instr
  | .b, n => .ldBN8 n
  | .c, n => .ldCN8 n
  | .d, n => .ldDN8 n
  | .e, n => .ldEN8 n
  | .h, n => .ldHN8 n
  | .l, n => .ldLN8 n
  | .a, n => .ldAN8 n

/-- R290, `ADD HL,r16`. -/
def addHlPair : Pair → Instr
  | .bc => .addHlBc
  | .de => .addHlDe
  | .hl => .addHlHl
  | .sp => .addHlSp

/-- R292, `DEC r16`. -/
def decPair : Pair → Instr
  | .bc => .decBc
  | .de => .decDe
  | .hl => .decHl
  | .sp => .decSp

/-- R335, `JR cc,e8`. -/
def jrIf : Cond → Byte → Instr
  | .nz, e => .jrNzE8 e
  | .z, e => .jrZE8 e
  | .nc, e => .jrNcE8 e
  | .c, e => .jrCE8 e

/-- R201, `LD r,r'`: destination, source. -/
def ldRegReg : Reg8 → Reg8 → Instr
  | .b, .b => .ldBB
  | .b, .c => .ldBC
  | .b, .d => .ldBD
  | .b, .e => .ldBE
  | .b, .h => .ldBH
  | .b, .l => .ldBL
  | .b, .a => .ldBA
  | .c, .b => .ldCB
  | .c, .c => .ldCC
  | .c, .d => .ldCD
  | .c, .e => .ldCE
  | .c, .h => .ldCH
  | .c, .l => .ldCL
  | .c, .a => .ldCA
  | .d, .b => .ldDB
  | .d, .c => .ldDC
  | .d, .d => .ldDD
  | .d, .e => .ldDE
  | .d, .h => .ldDH
  | .d, .l => .ldDL
  | .d, .a => .ldDA
  | .e, .b => .ldEB
  | .e, .c => .ldEC
  | .e, .d => .ldED
  | .e, .e => .ldEE
  | .e, .h => .ldEH
  | .e, .l => .ldEL
  | .e, .a => .ldEA
  | .h, .b => .ldHB
  | .h, .c => .ldHC
  | .h, .d => .ldHD
  | .h, .e => .ldHE
  | .h, .h => .ldHH
  | .h, .l => .ldHL
  | .h, .a => .ldHA
  | .l, .b => .ldLB
  | .l, .c => .ldLC
  | .l, .d => .ldLD
  | .l, .e => .ldLE
  | .l, .h => .ldLH
  | .l, .l => .ldLL
  | .l, .a => .ldLA
  | .a, .b => .ldAB
  | .a, .c => .ldAC
  | .a, .d => .ldAD
  | .a, .e => .ldAE
  | .a, .h => .ldAH
  | .a, .l => .ldAL
  | .a, .a => .ldAA

/-- R203, `LD r,(HL)`. -/
def ldRegInd : Reg8 → Instr
  | .b => .ldBIndHl
  | .c => .ldCIndHl
  | .d => .ldDIndHl
  | .e => .ldEIndHl
  | .h => .ldHIndHl
  | .l => .ldLIndHl
  | .a => .ldAIndHl

/-- R204, `LD (HL),r`. -/
def ldIndReg : Reg8 → Instr
  | .b => .ldIndHlB
  | .c => .ldIndHlC
  | .d => .ldIndHlD
  | .e => .ldIndHlE
  | .h => .ldIndHlH
  | .l => .ldIndHlL
  | .a => .ldIndHlA

/-- The register forms of R251 to R272. -/
def aluReg : AluOp → Reg8 → Instr
  | .add, .b => .addAB
  | .add, .c => .addAC
  | .add, .d => .addAD
  | .add, .e => .addAE
  | .add, .h => .addAH
  | .add, .l => .addAL
  | .add, .a => .addAA
  | .adc, .b => .adcAB
  | .adc, .c => .adcAC
  | .adc, .d => .adcAD
  | .adc, .e => .adcAE
  | .adc, .h => .adcAH
  | .adc, .l => .adcAL
  | .adc, .a => .adcAA
  | .sub, .b => .subB
  | .sub, .c => .subC
  | .sub, .d => .subD
  | .sub, .e => .subE
  | .sub, .h => .subH
  | .sub, .l => .subL
  | .sub, .a => .subA
  | .sbc, .b => .sbcAB
  | .sbc, .c => .sbcAC
  | .sbc, .d => .sbcAD
  | .sbc, .e => .sbcAE
  | .sbc, .h => .sbcAH
  | .sbc, .l => .sbcAL
  | .sbc, .a => .sbcAA
  | .and, .b => .andB
  | .and, .c => .andC
  | .and, .d => .andD
  | .and, .e => .andE
  | .and, .h => .andH
  | .and, .l => .andL
  | .and, .a => .andA
  | .xor, .b => .xorB
  | .xor, .c => .xorC
  | .xor, .d => .xorD
  | .xor, .e => .xorE
  | .xor, .h => .xorH
  | .xor, .l => .xorL
  | .xor, .a => .xorA
  | .or, .b => .orB
  | .or, .c => .orC
  | .or, .d => .orD
  | .or, .e => .orE
  | .or, .h => .orH
  | .or, .l => .orL
  | .or, .a => .orA
  | .cp, .b => .cpB
  | .cp, .c => .cpC
  | .cp, .d => .cpD
  | .cp, .e => .cpE
  | .cp, .h => .cpH
  | .cp, .l => .cpL
  | .cp, .a => .cpA

/-- The (HL) forms of R252 to R273. -/
def aluInd : AluOp → Instr
  | .add => .addAIndHl
  | .adc => .adcAIndHl
  | .sub => .subIndHl
  | .sbc => .sbcAIndHl
  | .and => .andIndHl
  | .xor => .xorIndHl
  | .or => .orIndHl
  | .cp => .cpIndHl

/-- R339, `RET cc`. -/
def retIf : Cond → Instr
  | .nz => .retNz
  | .z => .retZ
  | .nc => .retNc
  | .c => .retC

/-- R235 and R236, `POP r16stk`. -/
def popPair : StackPair → Instr
  | .bc => .popBc
  | .de => .popDe
  | .hl => .popHl
  | .af => .popAf

/-- R332, `JP cc,n16`. -/
def jpIf : Cond → Word → Instr
  | .nz, n => .jpNzN16 n
  | .z, n => .jpZN16 n
  | .nc, n => .jpNcN16 n
  | .c, n => .jpCN16 n

/-- R337, `CALL cc,n16`. -/
def callIf : Cond → Word → Instr
  | .nz, n => .callNzN16 n
  | .z, n => .callZN16 n
  | .nc, n => .callNcN16 n
  | .c, n => .callCN16 n

/-- R234, `PUSH r16stk`. -/
def pushPair : StackPair → Instr
  | .bc => .pushBc
  | .de => .pushDe
  | .hl => .pushHl
  | .af => .pushAf

/-- The immediate forms of R253 to R274. -/
def aluImm : AluOp → Byte → Instr
  | .add, n => .addAN8 n
  | .adc, n => .adcAN8 n
  | .sub, n => .subN8 n
  | .sbc, n => .sbcAN8 n
  | .and, n => .andN8 n
  | .xor, n => .xorN8 n
  | .or, n => .orN8 n
  | .cp, n => .cpN8 n

/-- R341, `RST t`. -/
def rst : RstTarget → Instr
  | .t00 => .rst00
  | .t08 => .rst08
  | .t10 => .rst10
  | .t18 => .rst18
  | .t20 => .rst20
  | .t28 => .rst28
  | .t30 => .rst30
  | .t38 => .rst38

/-- R356, the illegal bytes. -/
def illegal : IllegalByte → Instr
  | .xD3 => .illegalD3
  | .xDB => .illegalDB
  | .xDD => .illegalDD
  | .xE3 => .illegalE3
  | .xE4 => .illegalE4
  | .xEB => .illegalEB
  | .xEC => .illegalEC
  | .xED => .illegalED
  | .xF4 => .illegalF4
  | .xFC => .illegalFC
  | .xFD => .illegalFD

/-- The prefixed rotates and shifts of a register, R305 to R319. -/
def shiftReg : ShiftOp → Reg8 → Instr
  | .rlc, .b => .rlcB
  | .rlc, .c => .rlcC
  | .rlc, .d => .rlcD
  | .rlc, .e => .rlcE
  | .rlc, .h => .rlcH
  | .rlc, .l => .rlcL
  | .rlc, .a => .rlcA
  | .rrc, .b => .rrcB
  | .rrc, .c => .rrcC
  | .rrc, .d => .rrcD
  | .rrc, .e => .rrcE
  | .rrc, .h => .rrcH
  | .rrc, .l => .rrcL
  | .rrc, .a => .rrcA
  | .rl, .b => .rlB
  | .rl, .c => .rlC
  | .rl, .d => .rlD
  | .rl, .e => .rlE
  | .rl, .h => .rlH
  | .rl, .l => .rlL
  | .rl, .a => .rlA
  | .rr, .b => .rrB
  | .rr, .c => .rrC
  | .rr, .d => .rrD
  | .rr, .e => .rrE
  | .rr, .h => .rrH
  | .rr, .l => .rrL
  | .rr, .a => .rrA
  | .sla, .b => .slaB
  | .sla, .c => .slaC
  | .sla, .d => .slaD
  | .sla, .e => .slaE
  | .sla, .h => .slaH
  | .sla, .l => .slaL
  | .sla, .a => .slaA
  | .sra, .b => .sraB
  | .sra, .c => .sraC
  | .sra, .d => .sraD
  | .sra, .e => .sraE
  | .sra, .h => .sraH
  | .sra, .l => .sraL
  | .sra, .a => .sraA
  | .swap, .b => .swapB
  | .swap, .c => .swapC
  | .swap, .d => .swapD
  | .swap, .e => .swapE
  | .swap, .h => .swapH
  | .swap, .l => .swapL
  | .swap, .a => .swapA
  | .srl, .b => .srlB
  | .srl, .c => .srlC
  | .srl, .d => .srlD
  | .srl, .e => .srlE
  | .srl, .h => .srlH
  | .srl, .l => .srlL
  | .srl, .a => .srlA

/-- The prefixed rotates and shifts of memory at HL, R306 to R320. -/
def shiftInd : ShiftOp → Instr
  | .rlc => .rlcIndHl
  | .rrc => .rrcIndHl
  | .rl => .rlIndHl
  | .rr => .rrIndHl
  | .sla => .slaIndHl
  | .sra => .sraIndHl
  | .swap => .swapIndHl
  | .srl => .srlIndHl

/-- R321, `BIT b,r`. -/
def bitReg : BitIndex → Reg8 → Instr
  | .b0, .b => .bit0B
  | .b0, .c => .bit0C
  | .b0, .d => .bit0D
  | .b0, .e => .bit0E
  | .b0, .h => .bit0H
  | .b0, .l => .bit0L
  | .b0, .a => .bit0A
  | .b1, .b => .bit1B
  | .b1, .c => .bit1C
  | .b1, .d => .bit1D
  | .b1, .e => .bit1E
  | .b1, .h => .bit1H
  | .b1, .l => .bit1L
  | .b1, .a => .bit1A
  | .b2, .b => .bit2B
  | .b2, .c => .bit2C
  | .b2, .d => .bit2D
  | .b2, .e => .bit2E
  | .b2, .h => .bit2H
  | .b2, .l => .bit2L
  | .b2, .a => .bit2A
  | .b3, .b => .bit3B
  | .b3, .c => .bit3C
  | .b3, .d => .bit3D
  | .b3, .e => .bit3E
  | .b3, .h => .bit3H
  | .b3, .l => .bit3L
  | .b3, .a => .bit3A
  | .b4, .b => .bit4B
  | .b4, .c => .bit4C
  | .b4, .d => .bit4D
  | .b4, .e => .bit4E
  | .b4, .h => .bit4H
  | .b4, .l => .bit4L
  | .b4, .a => .bit4A
  | .b5, .b => .bit5B
  | .b5, .c => .bit5C
  | .b5, .d => .bit5D
  | .b5, .e => .bit5E
  | .b5, .h => .bit5H
  | .b5, .l => .bit5L
  | .b5, .a => .bit5A
  | .b6, .b => .bit6B
  | .b6, .c => .bit6C
  | .b6, .d => .bit6D
  | .b6, .e => .bit6E
  | .b6, .h => .bit6H
  | .b6, .l => .bit6L
  | .b6, .a => .bit6A
  | .b7, .b => .bit7B
  | .b7, .c => .bit7C
  | .b7, .d => .bit7D
  | .b7, .e => .bit7E
  | .b7, .h => .bit7H
  | .b7, .l => .bit7L
  | .b7, .a => .bit7A

/-- R322, `BIT b,(HL)`. -/
def bitInd : BitIndex → Instr
  | .b0 => .bit0IndHl
  | .b1 => .bit1IndHl
  | .b2 => .bit2IndHl
  | .b3 => .bit3IndHl
  | .b4 => .bit4IndHl
  | .b5 => .bit5IndHl
  | .b6 => .bit6IndHl
  | .b7 => .bit7IndHl

/-- R323, `RES b,r`. -/
def resReg : BitIndex → Reg8 → Instr
  | .b0, .b => .res0B
  | .b0, .c => .res0C
  | .b0, .d => .res0D
  | .b0, .e => .res0E
  | .b0, .h => .res0H
  | .b0, .l => .res0L
  | .b0, .a => .res0A
  | .b1, .b => .res1B
  | .b1, .c => .res1C
  | .b1, .d => .res1D
  | .b1, .e => .res1E
  | .b1, .h => .res1H
  | .b1, .l => .res1L
  | .b1, .a => .res1A
  | .b2, .b => .res2B
  | .b2, .c => .res2C
  | .b2, .d => .res2D
  | .b2, .e => .res2E
  | .b2, .h => .res2H
  | .b2, .l => .res2L
  | .b2, .a => .res2A
  | .b3, .b => .res3B
  | .b3, .c => .res3C
  | .b3, .d => .res3D
  | .b3, .e => .res3E
  | .b3, .h => .res3H
  | .b3, .l => .res3L
  | .b3, .a => .res3A
  | .b4, .b => .res4B
  | .b4, .c => .res4C
  | .b4, .d => .res4D
  | .b4, .e => .res4E
  | .b4, .h => .res4H
  | .b4, .l => .res4L
  | .b4, .a => .res4A
  | .b5, .b => .res5B
  | .b5, .c => .res5C
  | .b5, .d => .res5D
  | .b5, .e => .res5E
  | .b5, .h => .res5H
  | .b5, .l => .res5L
  | .b5, .a => .res5A
  | .b6, .b => .res6B
  | .b6, .c => .res6C
  | .b6, .d => .res6D
  | .b6, .e => .res6E
  | .b6, .h => .res6H
  | .b6, .l => .res6L
  | .b6, .a => .res6A
  | .b7, .b => .res7B
  | .b7, .c => .res7C
  | .b7, .d => .res7D
  | .b7, .e => .res7E
  | .b7, .h => .res7H
  | .b7, .l => .res7L
  | .b7, .a => .res7A

/-- R324, `RES b,(HL)`. -/
def resInd : BitIndex → Instr
  | .b0 => .res0IndHl
  | .b1 => .res1IndHl
  | .b2 => .res2IndHl
  | .b3 => .res3IndHl
  | .b4 => .res4IndHl
  | .b5 => .res5IndHl
  | .b6 => .res6IndHl
  | .b7 => .res7IndHl

/-- R325, `SET b,r`. -/
def setReg : BitIndex → Reg8 → Instr
  | .b0, .b => .set0B
  | .b0, .c => .set0C
  | .b0, .d => .set0D
  | .b0, .e => .set0E
  | .b0, .h => .set0H
  | .b0, .l => .set0L
  | .b0, .a => .set0A
  | .b1, .b => .set1B
  | .b1, .c => .set1C
  | .b1, .d => .set1D
  | .b1, .e => .set1E
  | .b1, .h => .set1H
  | .b1, .l => .set1L
  | .b1, .a => .set1A
  | .b2, .b => .set2B
  | .b2, .c => .set2C
  | .b2, .d => .set2D
  | .b2, .e => .set2E
  | .b2, .h => .set2H
  | .b2, .l => .set2L
  | .b2, .a => .set2A
  | .b3, .b => .set3B
  | .b3, .c => .set3C
  | .b3, .d => .set3D
  | .b3, .e => .set3E
  | .b3, .h => .set3H
  | .b3, .l => .set3L
  | .b3, .a => .set3A
  | .b4, .b => .set4B
  | .b4, .c => .set4C
  | .b4, .d => .set4D
  | .b4, .e => .set4E
  | .b4, .h => .set4H
  | .b4, .l => .set4L
  | .b4, .a => .set4A
  | .b5, .b => .set5B
  | .b5, .c => .set5C
  | .b5, .d => .set5D
  | .b5, .e => .set5E
  | .b5, .h => .set5H
  | .b5, .l => .set5L
  | .b5, .a => .set5A
  | .b6, .b => .set6B
  | .b6, .c => .set6C
  | .b6, .d => .set6D
  | .b6, .e => .set6E
  | .b6, .h => .set6H
  | .b6, .l => .set6L
  | .b6, .a => .set6A
  | .b7, .b => .set7B
  | .b7, .c => .set7C
  | .b7, .d => .set7D
  | .b7, .e => .set7E
  | .b7, .h => .set7H
  | .b7, .l => .set7L
  | .b7, .a => .set7A

/-- R326, `SET b,(HL)`. -/
def setInd : BitIndex → Instr
  | .b0 => .set0IndHl
  | .b1 => .set1IndHl
  | .b2 => .set2IndHl
  | .b3 => .set3IndHl
  | .b4 => .set4IndHl
  | .b5 => .set5IndHl
  | .b6 => .set6IndHl
  | .b7 => .set7IndHl

end Instr
end Sys2Proof
end

