-- ==== Sys2Proof/WellFormed.lean ====
section
/-! DEFINITION. Which rows of the table are instructions that can be dispatched. Every immediate has its encoding's width by its type,
so the checks are the two that the table itself needs: an entry of declared length 0 is illegal (30_encoding.md rules R87, R96), and
the base entry of the prefix byte is never selected (rule R88). -/

namespace Sys2Proof

/-- The entry has a legal declared length (R87): it is none of the eleven rows of R96. -/
def Instr.hasLegalLength : Instr → Bool
  | .illegalD3 => false
  | .illegalDB => false
  | .illegalDD => false
  | .illegalE3 => false
  | .illegalE4 => false
  | .illegalEB => false
  | .illegalEC => false
  | .illegalED => false
  | .illegalF4 => false
  | .illegalFC => false
  | .illegalFD => false
  | _ => true

/-- The entry can be selected (R88): it is not `BaseTable[0xCB]`. -/
def Instr.isSelectable : Instr → Bool
  | .prefixCb => false
  | _ => true

/-- A row that decode can answer and the engine can dispatch. -/
def WellFormed (i : Instr) : Bool := i.hasLegalLength && i.isSelectable

end Sys2Proof
end

