-- ==== Sys2Proof/Decode.lean ====
section
/-! DEFINITION. The two instruction tables as constant arrays (10_state.md rule R35, 30_encoding.md rule R83), the decoder over bytes
(rules R80 to R88), the encoder, the numbering of spec/opcode_table.json, and the byte-order helpers both use (rules R55, R86). -/

namespace Sys2Proof

/-- `v[7:0]` (R7). -/
def lowByte (v : Word) : Byte := v.extractLsb' 0 8

/-- `v[15:8]` (R7). -/
def highByte (v : Word) : Byte := v.extractLsb' 8 8

/-- `(hi << 8) | lo` (R7, R86). -/
def joinBytes (hi lo : Byte) : Word := hi ++ lo

/-! ### The base table: row x of the opcode map, entries x0 to xF, over the immediate bytes -/

/-- Row 0x. -/
def baseRow0 (lo : Byte) (nn : Word) : List Instr :=
  [.nop, .ldBcN16 nn, .ldIndBcA, .incBc,
   .incB, .decB, .ldBN8 lo, .rlca,
   .ldIndN16Sp nn, .addHlBc, .ldAIndBc, .decBc,
   .incC, .decC, .ldCN8 lo, .rrca]

/-- Row 1x. -/
def baseRow1 (lo : Byte) (nn : Word) : List Instr :=
  [.stop lo, .ldDeN16 nn, .ldIndDeA, .incDe,
   .incD, .decD, .ldDN8 lo, .rla,
   .jrE8 lo, .addHlDe, .ldAIndDe, .decDe,
   .incE, .decE, .ldEN8 lo, .rra]

/-- Row 2x. -/
def baseRow2 (lo : Byte) (nn : Word) : List Instr :=
  [.jrNzE8 lo, .ldHlN16 nn, .ldIndHliA, .incHl,
   .incH, .decH, .ldHN8 lo, .daa,
   .jrZE8 lo, .addHlHl, .ldAIndHli, .decHl,
   .incL, .decL, .ldLN8 lo, .cpl]

/-- Row 3x. -/
def baseRow3 (lo : Byte) (nn : Word) : List Instr :=
  [.jrNcE8 lo, .ldSpN16 nn, .ldIndHldA, .incSp,
   .incIndHl, .decIndHl, .ldIndHlN8 lo, .scf,
   .jrCE8 lo, .addHlSp, .ldAIndHld, .decSp,
   .incA, .decA, .ldAN8 lo, .ccf]

/-- Row 4x. -/
def baseRow4 (_lo : Byte) (_nn : Word) : List Instr :=
  [.ldBB, .ldBC, .ldBD, .ldBE,
   .ldBH, .ldBL, .ldBIndHl, .ldBA,
   .ldCB, .ldCC, .ldCD, .ldCE,
   .ldCH, .ldCL, .ldCIndHl, .ldCA]

/-- Row 5x. -/
def baseRow5 (_lo : Byte) (_nn : Word) : List Instr :=
  [.ldDB, .ldDC, .ldDD, .ldDE,
   .ldDH, .ldDL, .ldDIndHl, .ldDA,
   .ldEB, .ldEC, .ldED, .ldEE,
   .ldEH, .ldEL, .ldEIndHl, .ldEA]

/-- Row 6x. -/
def baseRow6 (_lo : Byte) (_nn : Word) : List Instr :=
  [.ldHB, .ldHC, .ldHD, .ldHE,
   .ldHH, .ldHL, .ldHIndHl, .ldHA,
   .ldLB, .ldLC, .ldLD, .ldLE,
   .ldLH, .ldLL, .ldLIndHl, .ldLA]

/-- Row 7x. -/
def baseRow7 (_lo : Byte) (_nn : Word) : List Instr :=
  [.ldIndHlB, .ldIndHlC, .ldIndHlD, .ldIndHlE,
   .ldIndHlH, .ldIndHlL, .halt, .ldIndHlA,
   .ldAB, .ldAC, .ldAD, .ldAE,
   .ldAH, .ldAL, .ldAIndHl, .ldAA]

/-- Row 8x. -/
def baseRow8 (_lo : Byte) (_nn : Word) : List Instr :=
  [.addAB, .addAC, .addAD, .addAE,
   .addAH, .addAL, .addAIndHl, .addAA,
   .adcAB, .adcAC, .adcAD, .adcAE,
   .adcAH, .adcAL, .adcAIndHl, .adcAA]

/-- Row 9x. -/
def baseRow9 (_lo : Byte) (_nn : Word) : List Instr :=
  [.subB, .subC, .subD, .subE,
   .subH, .subL, .subIndHl, .subA,
   .sbcAB, .sbcAC, .sbcAD, .sbcAE,
   .sbcAH, .sbcAL, .sbcAIndHl, .sbcAA]

/-- Row Ax. -/
def baseRowA (_lo : Byte) (_nn : Word) : List Instr :=
  [.andB, .andC, .andD, .andE,
   .andH, .andL, .andIndHl, .andA,
   .xorB, .xorC, .xorD, .xorE,
   .xorH, .xorL, .xorIndHl, .xorA]

/-- Row Bx. -/
def baseRowB (_lo : Byte) (_nn : Word) : List Instr :=
  [.orB, .orC, .orD, .orE,
   .orH, .orL, .orIndHl, .orA,
   .cpB, .cpC, .cpD, .cpE,
   .cpH, .cpL, .cpIndHl, .cpA]

/-- Row Cx. -/
def baseRowC (lo : Byte) (nn : Word) : List Instr :=
  [.retNz, .popBc, .jpNzN16 nn, .jpN16 nn,
   .callNzN16 nn, .pushBc, .addAN8 lo, .rst00,
   .retZ, .ret, .jpZN16 nn, .prefixCb,
   .callZN16 nn, .callN16 nn, .adcAN8 lo, .rst08]

/-- Row Dx. -/
def baseRowD (lo : Byte) (nn : Word) : List Instr :=
  [.retNc, .popDe, .jpNcN16 nn, .illegalD3,
   .callNcN16 nn, .pushDe, .subN8 lo, .rst10,
   .retC, .reti, .jpCN16 nn, .illegalDB,
   .callCN16 nn, .illegalDD, .sbcAN8 lo, .rst18]

/-- Row Ex. -/
def baseRowE (lo : Byte) (nn : Word) : List Instr :=
  [.ldhIndN8A lo, .popHl, .ldIndCA, .illegalE3,
   .illegalE4, .pushHl, .andN8 lo, .rst20,
   .addSpE8 lo, .jpHl, .ldIndN16A nn, .illegalEB,
   .illegalEC, .illegalED, .xorN8 lo, .rst28]

/-- Row Fx. -/
def baseRowF (lo : Byte) (nn : Word) : List Instr :=
  [.ldhAIndN8 lo, .popAf, .ldAIndC, .di,
   .illegalF4, .pushAf, .orN8 lo, .rst30,
   .ldHlSpE8 lo, .ldSpHl, .ldAIndN16 nn, .ei,
   .illegalFC, .illegalFD, .cpN8 lo, .rst38]

/-- `BaseTable` (R83): 256 entries in 16 rows. -/
def baseTable (lo : Byte) (nn : Word) : List (List Instr) :=
  [baseRow0 lo nn, baseRow1 lo nn, baseRow2 lo nn, baseRow3 lo nn,
   baseRow4 lo nn, baseRow5 lo nn, baseRow6 lo nn, baseRow7 lo nn,
   baseRow8 lo nn, baseRow9 lo nn, baseRowA lo nn, baseRowB lo nn,
   baseRowC lo nn, baseRowD lo nn, baseRowE lo nn, baseRowF lo nn]

/-! ### The prefixed table -/

/-- Row 0x. -/
def prefixRow0 : List Instr :=
  [.rlcB, .rlcC, .rlcD, .rlcE, .rlcH, .rlcL, .rlcIndHl, .rlcA,
   .rrcB, .rrcC, .rrcD, .rrcE, .rrcH, .rrcL, .rrcIndHl, .rrcA]

/-- Row 1x. -/
def prefixRow1 : List Instr :=
  [.rlB, .rlC, .rlD, .rlE, .rlH, .rlL, .rlIndHl, .rlA,
   .rrB, .rrC, .rrD, .rrE, .rrH, .rrL, .rrIndHl, .rrA]

/-- Row 2x. -/
def prefixRow2 : List Instr :=
  [.slaB, .slaC, .slaD, .slaE, .slaH, .slaL, .slaIndHl, .slaA,
   .sraB, .sraC, .sraD, .sraE, .sraH, .sraL, .sraIndHl, .sraA]

/-- Row 3x. -/
def prefixRow3 : List Instr :=
  [.swapB, .swapC, .swapD, .swapE, .swapH, .swapL, .swapIndHl, .swapA,
   .srlB, .srlC, .srlD, .srlE, .srlH, .srlL, .srlIndHl, .srlA]

/-- Row 4x. -/
def prefixRow4 : List Instr :=
  [.bit0B, .bit0C, .bit0D, .bit0E, .bit0H, .bit0L, .bit0IndHl, .bit0A,
   .bit1B, .bit1C, .bit1D, .bit1E, .bit1H, .bit1L, .bit1IndHl, .bit1A]

/-- Row 5x. -/
def prefixRow5 : List Instr :=
  [.bit2B, .bit2C, .bit2D, .bit2E, .bit2H, .bit2L, .bit2IndHl, .bit2A,
   .bit3B, .bit3C, .bit3D, .bit3E, .bit3H, .bit3L, .bit3IndHl, .bit3A]

/-- Row 6x. -/
def prefixRow6 : List Instr :=
  [.bit4B, .bit4C, .bit4D, .bit4E, .bit4H, .bit4L, .bit4IndHl, .bit4A,
   .bit5B, .bit5C, .bit5D, .bit5E, .bit5H, .bit5L, .bit5IndHl, .bit5A]

/-- Row 7x. -/
def prefixRow7 : List Instr :=
  [.bit6B, .bit6C, .bit6D, .bit6E, .bit6H, .bit6L, .bit6IndHl, .bit6A,
   .bit7B, .bit7C, .bit7D, .bit7E, .bit7H, .bit7L, .bit7IndHl, .bit7A]

/-- Row 8x. -/
def prefixRow8 : List Instr :=
  [.res0B, .res0C, .res0D, .res0E, .res0H, .res0L, .res0IndHl, .res0A,
   .res1B, .res1C, .res1D, .res1E, .res1H, .res1L, .res1IndHl, .res1A]

/-- Row 9x. -/
def prefixRow9 : List Instr :=
  [.res2B, .res2C, .res2D, .res2E, .res2H, .res2L, .res2IndHl, .res2A,
   .res3B, .res3C, .res3D, .res3E, .res3H, .res3L, .res3IndHl, .res3A]

/-- Row Ax. -/
def prefixRowA : List Instr :=
  [.res4B, .res4C, .res4D, .res4E, .res4H, .res4L, .res4IndHl, .res4A,
   .res5B, .res5C, .res5D, .res5E, .res5H, .res5L, .res5IndHl, .res5A]

/-- Row Bx. -/
def prefixRowB : List Instr :=
  [.res6B, .res6C, .res6D, .res6E, .res6H, .res6L, .res6IndHl, .res6A,
   .res7B, .res7C, .res7D, .res7E, .res7H, .res7L, .res7IndHl, .res7A]

/-- Row Cx. -/
def prefixRowC : List Instr :=
  [.set0B, .set0C, .set0D, .set0E, .set0H, .set0L, .set0IndHl, .set0A,
   .set1B, .set1C, .set1D, .set1E, .set1H, .set1L, .set1IndHl, .set1A]

/-- Row Dx. -/
def prefixRowD : List Instr :=
  [.set2B, .set2C, .set2D, .set2E, .set2H, .set2L, .set2IndHl, .set2A,
   .set3B, .set3C, .set3D, .set3E, .set3H, .set3L, .set3IndHl, .set3A]

/-- Row Ex. -/
def prefixRowE : List Instr :=
  [.set4B, .set4C, .set4D, .set4E, .set4H, .set4L, .set4IndHl, .set4A,
   .set5B, .set5C, .set5D, .set5E, .set5H, .set5L, .set5IndHl, .set5A]

/-- Row Fx. -/
def prefixRowF : List Instr :=
  [.set6B, .set6C, .set6D, .set6E, .set6H, .set6L, .set6IndHl, .set6A,
   .set7B, .set7C, .set7D, .set7E, .set7H, .set7L, .set7IndHl, .set7A]

/-- `PrefixTable` (R83): 256 entries in 16 rows. -/
def prefixTable : List (List Instr) :=
  [prefixRow0, prefixRow1, prefixRow2, prefixRow3, prefixRow4, prefixRow5, prefixRow6, prefixRow7,
   prefixRow8, prefixRow9, prefixRowA, prefixRowB, prefixRowC, prefixRowD, prefixRowE, prefixRowF]

/-! ### The length and cycle columns -/

/-- The declared lengths of the base table (R82); 0 marks an illegal entry (R87). -/
def baseLengths : List (List Nat) :=
  [[1, 3, 1, 1, 1, 1, 2, 1, 3, 1, 1, 1, 1, 1, 2, 1],
   [2, 3, 1, 1, 1, 1, 2, 1, 2, 1, 1, 1, 1, 1, 2, 1],
   [2, 3, 1, 1, 1, 1, 2, 1, 2, 1, 1, 1, 1, 1, 2, 1],
   [2, 3, 1, 1, 1, 1, 2, 1, 2, 1, 1, 1, 1, 1, 2, 1],
   [1, 1, 1, 1, 1, 1, 1, 1, 1, 1, 1, 1, 1, 1, 1, 1],
   [1, 1, 1, 1, 1, 1, 1, 1, 1, 1, 1, 1, 1, 1, 1, 1],
   [1, 1, 1, 1, 1, 1, 1, 1, 1, 1, 1, 1, 1, 1, 1, 1],
   [1, 1, 1, 1, 1, 1, 1, 1, 1, 1, 1, 1, 1, 1, 1, 1],
   [1, 1, 1, 1, 1, 1, 1, 1, 1, 1, 1, 1, 1, 1, 1, 1],
   [1, 1, 1, 1, 1, 1, 1, 1, 1, 1, 1, 1, 1, 1, 1, 1],
   [1, 1, 1, 1, 1, 1, 1, 1, 1, 1, 1, 1, 1, 1, 1, 1],
   [1, 1, 1, 1, 1, 1, 1, 1, 1, 1, 1, 1, 1, 1, 1, 1],
   [1, 1, 3, 3, 3, 1, 2, 1, 1, 1, 3, 2, 3, 3, 2, 1],
   [1, 1, 3, 0, 3, 1, 2, 1, 1, 1, 3, 0, 3, 0, 2, 1],
   [2, 1, 1, 0, 0, 1, 2, 1, 2, 1, 3, 0, 0, 0, 2, 1],
   [2, 1, 1, 1, 0, 1, 2, 1, 2, 1, 3, 1, 0, 0, 2, 1]]

/-- The nominal cycle costs of the base table (R82, R462): for a conditional instruction, not taken. -/
def baseNominal : List (List Nat) :=
  [[4, 12, 8, 8, 4, 4, 8, 4, 20, 8, 8, 8, 4, 4, 8, 4],
   [4, 12, 8, 8, 4, 4, 8, 4, 12, 8, 8, 8, 4, 4, 8, 4],
   [8, 12, 8, 8, 4, 4, 8, 4, 8, 8, 8, 8, 4, 4, 8, 4],
   [8, 12, 8, 8, 12, 12, 12, 4, 8, 8, 8, 8, 4, 4, 8, 4],
   [4, 4, 4, 4, 4, 4, 8, 4, 4, 4, 4, 4, 4, 4, 8, 4],
   [4, 4, 4, 4, 4, 4, 8, 4, 4, 4, 4, 4, 4, 4, 8, 4],
   [4, 4, 4, 4, 4, 4, 8, 4, 4, 4, 4, 4, 4, 4, 8, 4],
   [8, 8, 8, 8, 8, 8, 4, 8, 4, 4, 4, 4, 4, 4, 8, 4],
   [4, 4, 4, 4, 4, 4, 8, 4, 4, 4, 4, 4, 4, 4, 8, 4],
   [4, 4, 4, 4, 4, 4, 8, 4, 4, 4, 4, 4, 4, 4, 8, 4],
   [4, 4, 4, 4, 4, 4, 8, 4, 4, 4, 4, 4, 4, 4, 8, 4],
   [4, 4, 4, 4, 4, 4, 8, 4, 4, 4, 4, 4, 4, 4, 8, 4],
   [8, 12, 12, 16, 12, 16, 8, 16, 8, 16, 12, 0, 12, 24, 8, 16],
   [8, 12, 12, 0, 12, 16, 8, 16, 8, 16, 12, 0, 12, 0, 8, 16],
   [12, 12, 8, 0, 0, 16, 8, 16, 16, 4, 16, 0, 0, 0, 8, 16],
   [12, 12, 8, 4, 0, 16, 8, 16, 12, 8, 16, 4, 0, 0, 8, 16]]

/-- The taken cycle costs of the base table (R462); the nominal cost where the table has no taken column. -/
def baseTaken : List (List Nat) :=
  [[4, 12, 8, 8, 4, 4, 8, 4, 20, 8, 8, 8, 4, 4, 8, 4],
   [4, 12, 8, 8, 4, 4, 8, 4, 12, 8, 8, 8, 4, 4, 8, 4],
   [12, 12, 8, 8, 4, 4, 8, 4, 12, 8, 8, 8, 4, 4, 8, 4],
   [12, 12, 8, 8, 12, 12, 12, 4, 12, 8, 8, 8, 4, 4, 8, 4],
   [4, 4, 4, 4, 4, 4, 8, 4, 4, 4, 4, 4, 4, 4, 8, 4],
   [4, 4, 4, 4, 4, 4, 8, 4, 4, 4, 4, 4, 4, 4, 8, 4],
   [4, 4, 4, 4, 4, 4, 8, 4, 4, 4, 4, 4, 4, 4, 8, 4],
   [8, 8, 8, 8, 8, 8, 4, 8, 4, 4, 4, 4, 4, 4, 8, 4],
   [4, 4, 4, 4, 4, 4, 8, 4, 4, 4, 4, 4, 4, 4, 8, 4],
   [4, 4, 4, 4, 4, 4, 8, 4, 4, 4, 4, 4, 4, 4, 8, 4],
   [4, 4, 4, 4, 4, 4, 8, 4, 4, 4, 4, 4, 4, 4, 8, 4],
   [4, 4, 4, 4, 4, 4, 8, 4, 4, 4, 4, 4, 4, 4, 8, 4],
   [20, 12, 16, 16, 24, 16, 8, 16, 20, 16, 16, 0, 24, 24, 8, 16],
   [20, 12, 16, 0, 24, 16, 8, 16, 20, 16, 16, 0, 24, 0, 8, 16],
   [12, 12, 8, 0, 0, 16, 8, 16, 16, 4, 16, 0, 0, 0, 8, 16],
   [12, 12, 8, 4, 0, 16, 8, 16, 12, 8, 16, 4, 0, 0, 8, 16]]

/-- The cycle costs of the prefixed table (R462). -/
def prefixNominal : List (List Nat) :=
  [[8, 8, 8, 8, 8, 8, 16, 8, 8, 8, 8, 8, 8, 8, 16, 8],
   [8, 8, 8, 8, 8, 8, 16, 8, 8, 8, 8, 8, 8, 8, 16, 8],
   [8, 8, 8, 8, 8, 8, 16, 8, 8, 8, 8, 8, 8, 8, 16, 8],
   [8, 8, 8, 8, 8, 8, 16, 8, 8, 8, 8, 8, 8, 8, 16, 8],
   [8, 8, 8, 8, 8, 8, 12, 8, 8, 8, 8, 8, 8, 8, 12, 8],
   [8, 8, 8, 8, 8, 8, 12, 8, 8, 8, 8, 8, 8, 8, 12, 8],
   [8, 8, 8, 8, 8, 8, 12, 8, 8, 8, 8, 8, 8, 8, 12, 8],
   [8, 8, 8, 8, 8, 8, 12, 8, 8, 8, 8, 8, 8, 8, 12, 8],
   [8, 8, 8, 8, 8, 8, 16, 8, 8, 8, 8, 8, 8, 8, 16, 8],
   [8, 8, 8, 8, 8, 8, 16, 8, 8, 8, 8, 8, 8, 8, 16, 8],
   [8, 8, 8, 8, 8, 8, 16, 8, 8, 8, 8, 8, 8, 8, 16, 8],
   [8, 8, 8, 8, 8, 8, 16, 8, 8, 8, 8, 8, 8, 8, 16, 8],
   [8, 8, 8, 8, 8, 8, 16, 8, 8, 8, 8, 8, 8, 8, 16, 8],
   [8, 8, 8, 8, 8, 8, 16, 8, 8, 8, 8, 8, 8, 8, 16, 8],
   [8, 8, 8, 8, 8, 8, 16, 8, 8, 8, 8, 8, 8, 8, 16, 8],
   [8, 8, 8, 8, 8, 8, 16, 8, 8, 8, 8, 8, 8, 8, 16, 8]]

/-! ### The operand codes of the encoding (R90 to R94) -/

/-- The r8 code (R90); code 110 names the memory byte at HL. -/
def Reg8.code : Reg8 → BitVec 3
  | .b => 0b000
  | .c => 0b001
  | .d => 0b010
  | .e => 0b011
  | .h => 0b100
  | .l => 0b101
  | .a => 0b111

/-- The r8 code of the memory byte at HL (R90). -/
def hlCode : BitVec 3 := 0b110

/-- The r16 code (R91, group 1). -/
def Pair.code : Pair → BitVec 2
  | .bc => 0b00
  | .de => 0b01
  | .hl => 0b10
  | .sp => 0b11

/-- The r16stk code (R91, group 2). -/
def StackPair.code : StackPair → BitVec 2
  | .bc => 0b00
  | .de => 0b01
  | .hl => 0b10
  | .af => 0b11

/-- The condition code (R92). -/
def Cond.code : Cond → BitVec 2
  | .nz => 0b00
  | .z  => 0b01
  | .nc => 0b10
  | .c  => 0b11

/-- The operation code (R93). -/
def AluOp.code : AluOp → BitVec 3
  | .add => 0b000
  | .adc => 0b001
  | .sub => 0b010
  | .sbc => 0b011
  | .and => 0b100
  | .xor => 0b101
  | .or  => 0b110
  | .cp  => 0b111

/-- The code of a rotate or shift (R94). -/
def ShiftOp.code : ShiftOp → BitVec 3
  | .rlc  => 0b000
  | .rrc  => 0b001
  | .rl   => 0b010
  | .rr   => 0b011
  | .sla  => 0b100
  | .sra  => 0b101
  | .swap => 0b110
  | .srl  => 0b111

/-- The bit number as a field (R94). -/
def BitIndex.code (b : BitIndex) : BitVec 3 := BitVec.ofNat 3 b.toNat

/-- The `y` field of RST: the target divided by 8 (R95, R341). -/
def RstTarget.code (t : RstTarget) : BitVec 3 := t.addr.extractLsb' 3 3

/-! ### The decoder -/

/-- The entry of a 256-entry table that a byte selects: row `op / 16`, column `op % 16` (R83). -/
def entryAt {α : Type} (table : List (List α)) (op : Byte) (absent : α) : α :=
  (table.getD (op.toNat / 16) []).getD (op.toNat % 16) absent

/-- The declared length of `BaseTable[op]` (R80, R82). -/
def declaredLen (op : Byte) : Nat := entryAt baseLengths op 0

/-- `BaseTable[op]`, with its immediates in place (R86): `lo` is the byte after the opcode and `hi` the one after that. -/
def baseEntry (op lo hi : Byte) : Instr := entryAt (baseTable lo (joinBytes hi lo)) op .prefixCb

/-- `PrefixTable[op]` (R84). -/
def prefixEntry (op : Byte) : Instr := entryAt prefixTable op .prefixCb

/-- Why `decode` rejects a list of bytes. -/
inductive DecodeReject where
  /-- The list is empty. -/
  | noByte
  /-- The list ends before the instruction that `opcode` begins. -/
  | truncated (opcode : Byte)
  /-- A base byte whose entry has no legal length (R87, R96). -/
  | illegalOpcode (opcode : Byte)
deriving DecidableEq, Repr

/-- The decoder (R80, R81, R84): the instruction at the head of the bytes, and the bytes after it. The prefix is tested first; the
byte after it selects the prefixed entry, whatever it is; an illegal base byte is rejected before any immediate is read. -/
def decode : List Byte → Except DecodeReject (Instr × List Byte)
  | [] => .error .noByte
  | op :: rest =>
    if op = Config.prefixByte then
      match rest with
      | [] => .error (.truncated op)
      | op2 :: rest2 => .ok (prefixEntry op2, rest2)
    else if declaredLen op = 1 then .ok (baseEntry op 0 0, rest)
    else if declaredLen op = 2 then
      match rest with
      | [] => .error (.truncated op)
      | lo :: rest2 => .ok (baseEntry op lo 0, rest2)
    else if declaredLen op = 3 then
      match rest with
      | lo :: hi :: rest3 => .ok (baseEntry op lo hi, rest3)
      | _ => .error (.truncated op)
    else .error (.illegalOpcode op)

/-! ### The encoder -/

/-- The bytes of an instruction (R80, R86, R89 to R96). For the rows that are not well formed it is the row's own byte. -/
def encode : Instr → List Byte
  | .nop => [0x00]
  | .ldBcN16 n => [0x01, lowByte n, highByte n]
  | .ldIndBcA => [0x02]
  | .incBc => [0x03]
  | .incB => [0x04]
  | .decB => [0x05]
  | .ldBN8 n => [0x06, n]
  | .rlca => [0x07]
  | .ldIndN16Sp n => [0x08, lowByte n, highByte n]
  | .addHlBc => [0x09]
  | .ldAIndBc => [0x0A]
  | .decBc => [0x0B]
  | .incC => [0x0C]
  | .decC => [0x0D]
  | .ldCN8 n => [0x0E, n]
  | .rrca => [0x0F]
  | .stop n => [0x10, n]
  | .ldDeN16 n => [0x11, lowByte n, highByte n]
  | .ldIndDeA => [0x12]
  | .incDe => [0x13]
  | .incD => [0x14]
  | .decD => [0x15]
  | .ldDN8 n => [0x16, n]
  | .rla => [0x17]
  | .jrE8 e => [0x18, e]
  | .addHlDe => [0x19]
  | .ldAIndDe => [0x1A]
  | .decDe => [0x1B]
  | .incE => [0x1C]
  | .decE => [0x1D]
  | .ldEN8 n => [0x1E, n]
  | .rra => [0x1F]
  | .jrNzE8 e => [0x20, e]
  | .ldHlN16 n => [0x21, lowByte n, highByte n]
  | .ldIndHliA => [0x22]
  | .incHl => [0x23]
  | .incH => [0x24]
  | .decH => [0x25]
  | .ldHN8 n => [0x26, n]
  | .daa => [0x27]
  | .jrZE8 e => [0x28, e]
  | .addHlHl => [0x29]
  | .ldAIndHli => [0x2A]
  | .decHl => [0x2B]
  | .incL => [0x2C]
  | .decL => [0x2D]
  | .ldLN8 n => [0x2E, n]
  | .cpl => [0x2F]
  | .jrNcE8 e => [0x30, e]
  | .ldSpN16 n => [0x31, lowByte n, highByte n]
  | .ldIndHldA => [0x32]
  | .incSp => [0x33]
  | .incIndHl => [0x34]
  | .decIndHl => [0x35]
  | .ldIndHlN8 n => [0x36, n]
  | .scf => [0x37]
  | .jrCE8 e => [0x38, e]
  | .addHlSp => [0x39]
  | .ldAIndHld => [0x3A]
  | .decSp => [0x3B]
  | .incA => [0x3C]
  | .decA => [0x3D]
  | .ldAN8 n => [0x3E, n]
  | .ccf => [0x3F]
  | .ldBB => [0x40]
  | .ldBC => [0x41]
  | .ldBD => [0x42]
  | .ldBE => [0x43]
  | .ldBH => [0x44]
  | .ldBL => [0x45]
  | .ldBIndHl => [0x46]
  | .ldBA => [0x47]
  | .ldCB => [0x48]
  | .ldCC => [0x49]
  | .ldCD => [0x4A]
  | .ldCE => [0x4B]
  | .ldCH => [0x4C]
  | .ldCL => [0x4D]
  | .ldCIndHl => [0x4E]
  | .ldCA => [0x4F]
  | .ldDB => [0x50]
  | .ldDC => [0x51]
  | .ldDD => [0x52]
  | .ldDE => [0x53]
  | .ldDH => [0x54]
  | .ldDL => [0x55]
  | .ldDIndHl => [0x56]
  | .ldDA => [0x57]
  | .ldEB => [0x58]
  | .ldEC => [0x59]
  | .ldED => [0x5A]
  | .ldEE => [0x5B]
  | .ldEH => [0x5C]
  | .ldEL => [0x5D]
  | .ldEIndHl => [0x5E]
  | .ldEA => [0x5F]
  | .ldHB => [0x60]
  | .ldHC => [0x61]
  | .ldHD => [0x62]
  | .ldHE => [0x63]
  | .ldHH => [0x64]
  | .ldHL => [0x65]
  | .ldHIndHl => [0x66]
  | .ldHA => [0x67]
  | .ldLB => [0x68]
  | .ldLC => [0x69]
  | .ldLD => [0x6A]
  | .ldLE => [0x6B]
  | .ldLH => [0x6C]
  | .ldLL => [0x6D]
  | .ldLIndHl => [0x6E]
  | .ldLA => [0x6F]
  | .ldIndHlB => [0x70]
  | .ldIndHlC => [0x71]
  | .ldIndHlD => [0x72]
  | .ldIndHlE => [0x73]
  | .ldIndHlH => [0x74]
  | .ldIndHlL => [0x75]
  | .halt => [0x76]
  | .ldIndHlA => [0x77]
  | .ldAB => [0x78]
  | .ldAC => [0x79]
  | .ldAD => [0x7A]
  | .ldAE => [0x7B]
  | .ldAH => [0x7C]
  | .ldAL => [0x7D]
  | .ldAIndHl => [0x7E]
  | .ldAA => [0x7F]
  | .addAB => [0x80]
  | .addAC => [0x81]
  | .addAD => [0x82]
  | .addAE => [0x83]
  | .addAH => [0x84]
  | .addAL => [0x85]
  | .addAIndHl => [0x86]
  | .addAA => [0x87]
  | .adcAB => [0x88]
  | .adcAC => [0x89]
  | .adcAD => [0x8A]
  | .adcAE => [0x8B]
  | .adcAH => [0x8C]
  | .adcAL => [0x8D]
  | .adcAIndHl => [0x8E]
  | .adcAA => [0x8F]
  | .subB => [0x90]
  | .subC => [0x91]
  | .subD => [0x92]
  | .subE => [0x93]
  | .subH => [0x94]
  | .subL => [0x95]
  | .subIndHl => [0x96]
  | .subA => [0x97]
  | .sbcAB => [0x98]
  | .sbcAC => [0x99]
  | .sbcAD => [0x9A]
  | .sbcAE => [0x9B]
  | .sbcAH => [0x9C]
  | .sbcAL => [0x9D]
  | .sbcAIndHl => [0x9E]
  | .sbcAA => [0x9F]
  | .andB => [0xA0]
  | .andC => [0xA1]
  | .andD => [0xA2]
  | .andE => [0xA3]
  | .andH => [0xA4]
  | .andL => [0xA5]
  | .andIndHl => [0xA6]
  | .andA => [0xA7]
  | .xorB => [0xA8]
  | .xorC => [0xA9]
  | .xorD => [0xAA]
  | .xorE => [0xAB]
  | .xorH => [0xAC]
  | .xorL => [0xAD]
  | .xorIndHl => [0xAE]
  | .xorA => [0xAF]
  | .orB => [0xB0]
  | .orC => [0xB1]
  | .orD => [0xB2]
  | .orE => [0xB3]
  | .orH => [0xB4]
  | .orL => [0xB5]
  | .orIndHl => [0xB6]
  | .orA => [0xB7]
  | .cpB => [0xB8]
  | .cpC => [0xB9]
  | .cpD => [0xBA]
  | .cpE => [0xBB]
  | .cpH => [0xBC]
  | .cpL => [0xBD]
  | .cpIndHl => [0xBE]
  | .cpA => [0xBF]
  | .retNz => [0xC0]
  | .popBc => [0xC1]
  | .jpNzN16 n => [0xC2, lowByte n, highByte n]
  | .jpN16 n => [0xC3, lowByte n, highByte n]
  | .callNzN16 n => [0xC4, lowByte n, highByte n]
  | .pushBc => [0xC5]
  | .addAN8 n => [0xC6, n]
  | .rst00 => [0xC7]
  | .retZ => [0xC8]
  | .ret => [0xC9]
  | .jpZN16 n => [0xCA, lowByte n, highByte n]
  | .prefixCb => [0xCB]
  | .callZN16 n => [0xCC, lowByte n, highByte n]
  | .callN16 n => [0xCD, lowByte n, highByte n]
  | .adcAN8 n => [0xCE, n]
  | .rst08 => [0xCF]
  | .retNc => [0xD0]
  | .popDe => [0xD1]
  | .jpNcN16 n => [0xD2, lowByte n, highByte n]
  | .illegalD3 => [0xD3]
  | .callNcN16 n => [0xD4, lowByte n, highByte n]
  | .pushDe => [0xD5]
  | .subN8 n => [0xD6, n]
  | .rst10 => [0xD7]
  | .retC => [0xD8]
  | .reti => [0xD9]
  | .jpCN16 n => [0xDA, lowByte n, highByte n]
  | .illegalDB => [0xDB]
  | .callCN16 n => [0xDC, lowByte n, highByte n]
  | .illegalDD => [0xDD]
  | .sbcAN8 n => [0xDE, n]
  | .rst18 => [0xDF]
  | .ldhIndN8A n => [0xE0, n]
  | .popHl => [0xE1]
  | .ldIndCA => [0xE2]
  | .illegalE3 => [0xE3]
  | .illegalE4 => [0xE4]
  | .pushHl => [0xE5]
  | .andN8 n => [0xE6, n]
  | .rst20 => [0xE7]
  | .addSpE8 e => [0xE8, e]
  | .jpHl => [0xE9]
  | .ldIndN16A n => [0xEA, lowByte n, highByte n]
  | .illegalEB => [0xEB]
  | .illegalEC => [0xEC]
  | .illegalED => [0xED]
  | .xorN8 n => [0xEE, n]
  | .rst28 => [0xEF]
  | .ldhAIndN8 n => [0xF0, n]
  | .popAf => [0xF1]
  | .ldAIndC => [0xF2]
  | .di => [0xF3]
  | .illegalF4 => [0xF4]
  | .pushAf => [0xF5]
  | .orN8 n => [0xF6, n]
  | .rst30 => [0xF7]
  | .ldHlSpE8 e => [0xF8, e]
  | .ldSpHl => [0xF9]
  | .ldAIndN16 n => [0xFA, lowByte n, highByte n]
  | .ei => [0xFB]
  | .illegalFC => [0xFC]
  | .illegalFD => [0xFD]
  | .cpN8 n => [0xFE, n]
  | .rst38 => [0xFF]
  | .rlcB => [0xCB, 0x00]
  | .rlcC => [0xCB, 0x01]
  | .rlcD => [0xCB, 0x02]
  | .rlcE => [0xCB, 0x03]
  | .rlcH => [0xCB, 0x04]
  | .rlcL => [0xCB, 0x05]
  | .rlcIndHl => [0xCB, 0x06]
  | .rlcA => [0xCB, 0x07]
  | .rrcB => [0xCB, 0x08]
  | .rrcC => [0xCB, 0x09]
  | .rrcD => [0xCB, 0x0A]
  | .rrcE => [0xCB, 0x0B]
  | .rrcH => [0xCB, 0x0C]
  | .rrcL => [0xCB, 0x0D]
  | .rrcIndHl => [0xCB, 0x0E]
  | .rrcA => [0xCB, 0x0F]
  | .rlB => [0xCB, 0x10]
  | .rlC => [0xCB, 0x11]
  | .rlD => [0xCB, 0x12]
  | .rlE => [0xCB, 0x13]
  | .rlH => [0xCB, 0x14]
  | .rlL => [0xCB, 0x15]
  | .rlIndHl => [0xCB, 0x16]
  | .rlA => [0xCB, 0x17]
  | .rrB => [0xCB, 0x18]
  | .rrC => [0xCB, 0x19]
  | .rrD => [0xCB, 0x1A]
  | .rrE => [0xCB, 0x1B]
  | .rrH => [0xCB, 0x1C]
  | .rrL => [0xCB, 0x1D]
  | .rrIndHl => [0xCB, 0x1E]
  | .rrA => [0xCB, 0x1F]
  | .slaB => [0xCB, 0x20]
  | .slaC => [0xCB, 0x21]
  | .slaD => [0xCB, 0x22]
  | .slaE => [0xCB, 0x23]
  | .slaH => [0xCB, 0x24]
  | .slaL => [0xCB, 0x25]
  | .slaIndHl => [0xCB, 0x26]
  | .slaA => [0xCB, 0x27]
  | .sraB => [0xCB, 0x28]
  | .sraC => [0xCB, 0x29]
  | .sraD => [0xCB, 0x2A]
  | .sraE => [0xCB, 0x2B]
  | .sraH => [0xCB, 0x2C]
  | .sraL => [0xCB, 0x2D]
  | .sraIndHl => [0xCB, 0x2E]
  | .sraA => [0xCB, 0x2F]
  | .swapB => [0xCB, 0x30]
  | .swapC => [0xCB, 0x31]
  | .swapD => [0xCB, 0x32]
  | .swapE => [0xCB, 0x33]
  | .swapH => [0xCB, 0x34]
  | .swapL => [0xCB, 0x35]
  | .swapIndHl => [0xCB, 0x36]
  | .swapA => [0xCB, 0x37]
  | .srlB => [0xCB, 0x38]
  | .srlC => [0xCB, 0x39]
  | .srlD => [0xCB, 0x3A]
  | .srlE => [0xCB, 0x3B]
  | .srlH => [0xCB, 0x3C]
  | .srlL => [0xCB, 0x3D]
  | .srlIndHl => [0xCB, 0x3E]
  | .srlA => [0xCB, 0x3F]
  | .bit0B => [0xCB, 0x40]
  | .bit0C => [0xCB, 0x41]
  | .bit0D => [0xCB, 0x42]
  | .bit0E => [0xCB, 0x43]
  | .bit0H => [0xCB, 0x44]
  | .bit0L => [0xCB, 0x45]
  | .bit0IndHl => [0xCB, 0x46]
  | .bit0A => [0xCB, 0x47]
  | .bit1B => [0xCB, 0x48]
  | .bit1C => [0xCB, 0x49]
  | .bit1D => [0xCB, 0x4A]
  | .bit1E => [0xCB, 0x4B]
  | .bit1H => [0xCB, 0x4C]
  | .bit1L => [0xCB, 0x4D]
  | .bit1IndHl => [0xCB, 0x4E]
  | .bit1A => [0xCB, 0x4F]
  | .bit2B => [0xCB, 0x50]
  | .bit2C => [0xCB, 0x51]
  | .bit2D => [0xCB, 0x52]
  | .bit2E => [0xCB, 0x53]
  | .bit2H => [0xCB, 0x54]
  | .bit2L => [0xCB, 0x55]
  | .bit2IndHl => [0xCB, 0x56]
  | .bit2A => [0xCB, 0x57]
  | .bit3B => [0xCB, 0x58]
  | .bit3C => [0xCB, 0x59]
  | .bit3D => [0xCB, 0x5A]
  | .bit3E => [0xCB, 0x5B]
  | .bit3H => [0xCB, 0x5C]
  | .bit3L => [0xCB, 0x5D]
  | .bit3IndHl => [0xCB, 0x5E]
  | .bit3A => [0xCB, 0x5F]
  | .bit4B => [0xCB, 0x60]
  | .bit4C => [0xCB, 0x61]
  | .bit4D => [0xCB, 0x62]
  | .bit4E => [0xCB, 0x63]
  | .bit4H => [0xCB, 0x64]
  | .bit4L => [0xCB, 0x65]
  | .bit4IndHl => [0xCB, 0x66]
  | .bit4A => [0xCB, 0x67]
  | .bit5B => [0xCB, 0x68]
  | .bit5C => [0xCB, 0x69]
  | .bit5D => [0xCB, 0x6A]
  | .bit5E => [0xCB, 0x6B]
  | .bit5H => [0xCB, 0x6C]
  | .bit5L => [0xCB, 0x6D]
  | .bit5IndHl => [0xCB, 0x6E]
  | .bit5A => [0xCB, 0x6F]
  | .bit6B => [0xCB, 0x70]
  | .bit6C => [0xCB, 0x71]
  | .bit6D => [0xCB, 0x72]
  | .bit6E => [0xCB, 0x73]
  | .bit6H => [0xCB, 0x74]
  | .bit6L => [0xCB, 0x75]
  | .bit6IndHl => [0xCB, 0x76]
  | .bit6A => [0xCB, 0x77]
  | .bit7B => [0xCB, 0x78]
  | .bit7C => [0xCB, 0x79]
  | .bit7D => [0xCB, 0x7A]
  | .bit7E => [0xCB, 0x7B]
  | .bit7H => [0xCB, 0x7C]
  | .bit7L => [0xCB, 0x7D]
  | .bit7IndHl => [0xCB, 0x7E]
  | .bit7A => [0xCB, 0x7F]
  | .res0B => [0xCB, 0x80]
  | .res0C => [0xCB, 0x81]
  | .res0D => [0xCB, 0x82]
  | .res0E => [0xCB, 0x83]
  | .res0H => [0xCB, 0x84]
  | .res0L => [0xCB, 0x85]
  | .res0IndHl => [0xCB, 0x86]
  | .res0A => [0xCB, 0x87]
  | .res1B => [0xCB, 0x88]
  | .res1C => [0xCB, 0x89]
  | .res1D => [0xCB, 0x8A]
  | .res1E => [0xCB, 0x8B]
  | .res1H => [0xCB, 0x8C]
  | .res1L => [0xCB, 0x8D]
  | .res1IndHl => [0xCB, 0x8E]
  | .res1A => [0xCB, 0x8F]
  | .res2B => [0xCB, 0x90]
  | .res2C => [0xCB, 0x91]
  | .res2D => [0xCB, 0x92]
  | .res2E => [0xCB, 0x93]
  | .res2H => [0xCB, 0x94]
  | .res2L => [0xCB, 0x95]
  | .res2IndHl => [0xCB, 0x96]
  | .res2A => [0xCB, 0x97]
  | .res3B => [0xCB, 0x98]
  | .res3C => [0xCB, 0x99]
  | .res3D => [0xCB, 0x9A]
  | .res3E => [0xCB, 0x9B]
  | .res3H => [0xCB, 0x9C]
  | .res3L => [0xCB, 0x9D]
  | .res3IndHl => [0xCB, 0x9E]
  | .res3A => [0xCB, 0x9F]
  | .res4B => [0xCB, 0xA0]
  | .res4C => [0xCB, 0xA1]
  | .res4D => [0xCB, 0xA2]
  | .res4E => [0xCB, 0xA3]
  | .res4H => [0xCB, 0xA4]
  | .res4L => [0xCB, 0xA5]
  | .res4IndHl => [0xCB, 0xA6]
  | .res4A => [0xCB, 0xA7]
  | .res5B => [0xCB, 0xA8]
  | .res5C => [0xCB, 0xA9]
  | .res5D => [0xCB, 0xAA]
  | .res5E => [0xCB, 0xAB]
  | .res5H => [0xCB, 0xAC]
  | .res5L => [0xCB, 0xAD]
  | .res5IndHl => [0xCB, 0xAE]
  | .res5A => [0xCB, 0xAF]
  | .res6B => [0xCB, 0xB0]
  | .res6C => [0xCB, 0xB1]
  | .res6D => [0xCB, 0xB2]
  | .res6E => [0xCB, 0xB3]
  | .res6H => [0xCB, 0xB4]
  | .res6L => [0xCB, 0xB5]
  | .res6IndHl => [0xCB, 0xB6]
  | .res6A => [0xCB, 0xB7]
  | .res7B => [0xCB, 0xB8]
  | .res7C => [0xCB, 0xB9]
  | .res7D => [0xCB, 0xBA]
  | .res7E => [0xCB, 0xBB]
  | .res7H => [0xCB, 0xBC]
  | .res7L => [0xCB, 0xBD]
  | .res7IndHl => [0xCB, 0xBE]
  | .res7A => [0xCB, 0xBF]
  | .set0B => [0xCB, 0xC0]
  | .set0C => [0xCB, 0xC1]
  | .set0D => [0xCB, 0xC2]
  | .set0E => [0xCB, 0xC3]
  | .set0H => [0xCB, 0xC4]
  | .set0L => [0xCB, 0xC5]
  | .set0IndHl => [0xCB, 0xC6]
  | .set0A => [0xCB, 0xC7]
  | .set1B => [0xCB, 0xC8]
  | .set1C => [0xCB, 0xC9]
  | .set1D => [0xCB, 0xCA]
  | .set1E => [0xCB, 0xCB]
  | .set1H => [0xCB, 0xCC]
  | .set1L => [0xCB, 0xCD]
  | .set1IndHl => [0xCB, 0xCE]
  | .set1A => [0xCB, 0xCF]
  | .set2B => [0xCB, 0xD0]
  | .set2C => [0xCB, 0xD1]
  | .set2D => [0xCB, 0xD2]
  | .set2E => [0xCB, 0xD3]
  | .set2H => [0xCB, 0xD4]
  | .set2L => [0xCB, 0xD5]
  | .set2IndHl => [0xCB, 0xD6]
  | .set2A => [0xCB, 0xD7]
  | .set3B => [0xCB, 0xD8]
  | .set3C => [0xCB, 0xD9]
  | .set3D => [0xCB, 0xDA]
  | .set3E => [0xCB, 0xDB]
  | .set3H => [0xCB, 0xDC]
  | .set3L => [0xCB, 0xDD]
  | .set3IndHl => [0xCB, 0xDE]
  | .set3A => [0xCB, 0xDF]
  | .set4B => [0xCB, 0xE0]
  | .set4C => [0xCB, 0xE1]
  | .set4D => [0xCB, 0xE2]
  | .set4E => [0xCB, 0xE3]
  | .set4H => [0xCB, 0xE4]
  | .set4L => [0xCB, 0xE5]
  | .set4IndHl => [0xCB, 0xE6]
  | .set4A => [0xCB, 0xE7]
  | .set5B => [0xCB, 0xE8]
  | .set5C => [0xCB, 0xE9]
  | .set5D => [0xCB, 0xEA]
  | .set5E => [0xCB, 0xEB]
  | .set5H => [0xCB, 0xEC]
  | .set5L => [0xCB, 0xED]
  | .set5IndHl => [0xCB, 0xEE]
  | .set5A => [0xCB, 0xEF]
  | .set6B => [0xCB, 0xF0]
  | .set6C => [0xCB, 0xF1]
  | .set6D => [0xCB, 0xF2]
  | .set6E => [0xCB, 0xF3]
  | .set6H => [0xCB, 0xF4]
  | .set6L => [0xCB, 0xF5]
  | .set6IndHl => [0xCB, 0xF6]
  | .set6A => [0xCB, 0xF7]
  | .set7B => [0xCB, 0xF8]
  | .set7C => [0xCB, 0xF9]
  | .set7D => [0xCB, 0xFA]
  | .set7E => [0xCB, 0xFB]
  | .set7H => [0xCB, 0xFC]
  | .set7L => [0xCB, 0xFD]
  | .set7IndHl => [0xCB, 0xFE]
  | .set7A => [0xCB, 0xFF]

/-- The parsed length of an instruction (R80): 2 for a prefixed one, otherwise the declared length of its opcode. -/
def Instr.length (i : Instr) : Nat :=
  match encode i with
  | [] => 0
  | op :: _ => if op = Config.prefixByte then 2 else declaredLen op

/-- The nominal cycle cost (R82, R462): for a conditional instruction, the cost when it is not taken. -/
def Instr.nominalCycles (i : Instr) : Nat :=
  match encode i with
  | [] => 0
  | [op] => entryAt baseNominal op 0
  | op :: op2 :: _ => if op = Config.prefixByte then entryAt prefixNominal op2 0 else entryAt baseNominal op 0

/-- The cycle cost when a conditional instruction is taken (R462); otherwise the nominal cost. -/
def Instr.takenCycles (i : Instr) : Nat :=
  match encode i with
  | [] => 0
  | [op] => entryAt baseTaken op 0
  | op :: op2 :: _ => if op = Config.prefixByte then entryAt prefixNominal op2 0 else entryAt baseTaken op 0

/-! ### The numbering of spec/opcode_table.json -/

/-- The bytes of an instruction whose bits are `w`, in memory order, three of them (the longest instruction, R80), zero above `nbits`.
The table numbers a base row with its opcode in bits 7..0 and its immediates above, and a prefixed row as the 16-bit number 0xCBxx;
a 16-bit number whose bits 15..8 are 0xCB is read as the latter (log 6). -/
def tableBytes (nbits w : Nat) : List Byte :=
  let v := w % 2 ^ nbits
  if nbits = 16 ∧ v / 256 = 0xCB then [0xCB, BitVec.ofNat 8 v, 0]
  else [BitVec.ofNat 8 v, BitVec.ofNat 8 (v / 256), BitVec.ofNat 8 (v / 65536)]

/-- The instruction the decoder reads from a word of the opcode table; none where it rejects. -/
def decodeTableWord (nbits w : Nat) : Option Instr :=
  match decode (tableBytes nbits w) with
  | .ok (i, _) => some i
  | .error _ => none

end Sys2Proof
end

