-- ==== Sys2Proof/Machine/State.lean ====
section
/-! DEFINITION. The state of the machine as plain data (10_state.md rule R20), the reasons a step can stop (60_exceptions.md
rule R415), and the launch state (70_reset_and_hazards.md rules R450 to R452). Beside the core state of R20 it holds the MMU
that the core was launched with (R50, R60) and the model's two output fields: what the last call returned (R110) and which MMU accesses it made
(R53, R60). -/

namespace Sys2Proof.Machine

/-- The run modes of R29. -/
inductive RunMode where
  | running
  | paused
  | singleStep
deriving DecidableEq, Repr

/-- The core's faults (R415). Each is recorded in `State.fault` by the call that raises it; every later step of the faulted
core stops with it (R120, R416). Stopping is safe: the core performs nothing more. -/
inductive Fault where
  /-- Code 1. Raised by decode on a base byte whose entry has no legal length (R87, R96), by the dispatch of a prefixed entry with no valid
  effect (R87, R114), by the model's choice also of a base one (log 15), and by the effect of a reference row that is never dispatched (R355,
  log 10). Safe. -/
  | illegalOpcode (addr : Word) (opcode : Byte) (prefixed : Bool)
  /-- Code 2. Raised by the effect of STOP (R352). Safe. -/
  | unmodelled (addr : Word) (opcode : Byte)
  /-- Code 3. Raised by a `cycle()` call on a core that was never primed (R120). Safe. -/
  | notPrimed (pc : Word)
deriving DecidableEq, Repr

/-- The cause code of R415. -/
def Fault.code : Fault → Nat
  | .illegalOpcode _ _ _ => 1
  | .unmodelled _ _      => 2
  | .notPrimed _         => 3

/-- The refusals. No meaning of this model ends in one. -/
inductive Refusal where
  /-- An instruction that has no meaning in `exec` yet, by its mnemonic. Safe. -/
  | notModelled (mnemonic : String)
deriving DecidableEq, Repr

/-- What a `cycle()` call returns (R110): a number of elapsed cycles, or the fault. -/
inductive CycleResult where
  | cycles (n : Nat)
  | faulted (f : Fault)
deriving DecidableEq, Repr

/-- A reference to a table entry (R30, R83): the table and the index that select it. -/
structure EntryRef where
  prefixed : Bool
  index    : Byte
deriving DecidableEq, Repr

/-- The record that decode produces (R30). `defn` is the reference to the resolved InstructionDefinition, as plain data (log 9). -/
structure ParsedInstruction where
  addr     : Word
  prefixed : Bool
  opcode   : Byte
  lo       : Byte
  hi       : Byte
  imm16    : Word
  len      : Nat
  defn     : EntryRef
deriving DecidableEq, Repr

/-- The bytes behind the MMU (R50): address and byte, addresses strictly rising, no entry that holds `Config.unlistedByte`
(`Memory.wf` in Machine/Mmu.lean). -/
abbrev Memory := List Host.Cell

/-- The MMU that a core is launched with (R6, R60, decision D15): the external collaborator that answers every access. -/
inductive Mmu where
  /-- The simulator MMU of R60: 65,536 plain bytes and no side effect. -/
  | simulator (bytes : Memory)
  /-- Any other MMU. `given` lists the answers to its next reads, for an MMU that is given by its answers, as a run can always give it;
  past them the answer is `Config.mmuAnswer` of `history`, which is everything the MMU has been told, oldest first (log 1). -/
  | external (given : List Byte) (history : List MmuEvent)
deriving DecidableEq, Repr

/-- The whole state. The first fourteen rows are the core state of R20, field by field. -/
structure State where
  /-- The accumulator A (R21). -/
  a       : Byte
  /-- The flag register F (R23); bits 3..0 are 0 (R24). -/
  f       : Byte
  b       : Byte
  c       : Byte
  d       : Byte
  e       : Byte
  h       : Byte
  l       : Byte
  /-- The stack pointer (R26). -/
  sp      : Word
  /-- The program counter (R25). -/
  pc      : Word
  /-- The master-interrupt-enable flag (R27). -/
  ime     : Bool
  /-- Whether a `cycle()` call executes no instruction (R28). -/
  halted  : Bool
  /-- The run mode (R29). -/
  runMode : RunMode
  /-- The instruction executing or last executed (R31). -/
  current : Option ParsedInstruction
  /-- The lookahead (R31). -/
  next    : Option ParsedInstruction
  /-- None, or the fatal fault that was raised (R32). -/
  fault   : Option Fault
  /-- The MMU and all that is behind it: instructions, data, the stack, IE and IF (R36, R50, R60). -/
  mmu     : Mmu
  /-- The MODEL's field (log 11): what the last `cycle()` call returned (R110, R119); none before the first call and after `prime()`. -/
  result  : Option CycleResult
  /-- The MODEL's field (log 11): the MMU accesses of the last `cycle()` or `prime()` call, oldest first (R53, R60). -/
  trace   : List BusEvent
deriving DecidableEq, Repr

/-- The launch state of R450 for any launch values and any MMU with its launch contents (R6). `F` is stored masked. -/
def State.launch (r : InitRegs) (m : Mmu) : State :=
  { a := r.a, f := r.f &&& 0xF0, b := r.b, c := r.c, d := r.d, e := r.e, h := r.h, l := r.l,
    sp := r.sp, pc := r.pc, ime := false, halted := false, runMode := .paused,
    current := none, next := none, fault := none, mmu := m, result := none, trace := [] }

/-- The machine right after construction, the only reset there is (R451). DESIGN CHOICE (log 1, log 2,
log 3): `InitRegs` and `Mmu` are arguments of the model (R6, R452); reset takes the profile `PostBootDMG` and the simulator MMU, with no
byte listed. -/
def State.reset : State := State.launch InitRegs.postBootDMG (.simulator [])

end Sys2Proof.Machine
end

