-- ==== Sys2Proof/Machine/Operands.lean ====
section
/-! DEFINITION. The one place where registers, pairs and operand kinds are read and written: the register file (10_state.md rules
R21, R22, R24), the operand values of 30_encoding.md rules R90, R91 and R95, and the register half of the helpers of
41_load8.md rule R200. -/

namespace Sys2Proof.Machine

/-- `sext_16` (R7). -/
def sext16 (v : Byte) : Word := v.signExtend 16

/-- `zext_16` (R7). -/
def zext16 (v : Byte) : Word := v.setWidth 16

/-- `x[r]` for the registers of R90. -/
def State.reg (s : State) : Reg8 → Byte
  | .b => s.b
  | .c => s.c
  | .d => s.d
  | .e => s.e
  | .h => s.h
  | .l => s.l
  | .a => s.a

/-- `x[r] <- v` for the registers of R90. -/
def State.setReg (s : State) (r : Reg8) (v : Byte) : State :=
  match r with
  | .b => { s with b := v }
  | .c => { s with c := v }
  | .d => { s with d := v }
  | .e => { s with e := v }
  | .h => { s with h := v }
  | .l => { s with l := v }
  | .a => { s with a := v }

/-- Every write to F stores `v & 0xF0` (R24). -/
def State.setF (s : State) (v : Byte) : State := { s with f := v &&& 0xF0 }

/-- `x16[rr]` for group 1 of R91; `x16[SP]` means `sp` (44_alu16.md). -/
def State.pair (s : State) : Pair → Word
  | .bc => joinBytes s.b s.c
  | .de => joinBytes s.d s.e
  | .hl => joinBytes s.h s.l
  | .sp => s.sp

/-- `x16[rr] <- v` for group 1 of R91 (R22). -/
def State.setPair (s : State) (p : Pair) (v : Word) : State :=
  match p with
  | .bc => { s with b := highByte v, c := lowByte v }
  | .de => { s with d := highByte v, e := lowByte v }
  | .hl => { s with h := highByte v, l := lowByte v }
  | .sp => { s with sp := v }

/-- `x16[rr]` for group 2 of R91 (R22). -/
def State.stackPair (s : State) : StackPair → Word
  | .bc => joinBytes s.b s.c
  | .de => joinBytes s.d s.e
  | .hl => joinBytes s.h s.l
  | .af => joinBytes s.a s.f

/-- `x16[rr] <- v` for group 2 of R91: the write of AF masks F (R22, R24). -/
def State.setStackPair (s : State) (p : StackPair) (v : Word) : State :=
  match p with
  | .bc => { s with b := highByte v, c := lowByte v }
  | .de => { s with d := highByte v, e := lowByte v }
  | .hl => { s with h := highByte v, l := lowByte v }
  | .af => State.setF { s with a := highByte v } (lowByte v)

/-- The memory operands of the reference table, each with the address it names (R90, R95, R206 to R219). -/
inductive MemOperand where
  | bc
  | de
  | hl
  | hlInc
  | hlDec
  | absolute (n : Word)
  | high (n : Byte)
  | highC
deriving DecidableEq, Repr

/-- The address a memory operand names, before any post-update of HL. -/
def State.operandAddr (s : State) : MemOperand → Word
  | .bc         => s.pair .bc
  | .de         => s.pair .de
  | .hl         => s.pair .hl
  | .hlInc      => s.pair .hl
  | .hlDec      => s.pair .hl
  | .absolute n => n
  | .high n     => Config.highPage + zext16 n
  | .highC      => Config.highPage + zext16 s.c

/-- The update of HL after the access: +1 or -1 modulo 2^16 for `(HL+)` and `(HL-)` (R216 to R219), none otherwise. -/
def State.postUpdate (s : State) : MemOperand → State
  | .hlInc => s.setPair .hl (s.pair .hl + 1)
  | .hlDec => s.setPair .hl (s.pair .hl - 1)
  | _      => s

end Sys2Proof.Machine
end

