-- ==== Sys2Proof/Machine/Flags.lean ====
section
/-! DEFINITION. The flag register's four bits (10_state.md rule R23), the conditions that read them (46_control.md rule R330), and
every computation of the reference table that decides a flag, each as a function from its operands to its result and flags
(43_alu8.md, 44_alu16.md, 42_load16_stack.md rule R233, 45_rotate_shift_bit.md). Where a rule says "as integers" the
computation is in `Nat` or `Int`. -/

namespace Sys2Proof.Machine

/-- The four meaningful bits of F (R23). -/
structure Flags where
  z : Bool
  n : Bool
  h : Bool
  c : Bool
deriving DecidableEq, Repr

/-- F from its four bits: Z 7, N 6, H 5, C 4, and 0 in bits 3..0 (R23, R24). -/
def Flags.toByte (g : Flags) : Byte :=
  (if g.z then 0x80 else 0) ||| (if g.n then 0x40 else 0) ||| (if g.h then 0x20 else 0) ||| (if g.c then 0x10 else 0)

/-- `F.Z`, `F.N`, `F.H`, `F.C` of a byte (R23). -/
def Flags.ofByte (v : Byte) : Flags :=
  { z := v.getLsbD 7, n := v.getLsbD 6, h := v.getLsbD 5, c := v.getLsbD 4 }

/-- The flags as they stand. -/
def State.flags (s : State) : Flags := Flags.ofByte s.f

/-- A flag update writes F through the one masked write (R24). -/
def State.setFlags (s : State) (g : Flags) : State := s.setF g.toByte

/-- `cond(cc)` (R92, R330). -/
def State.cond (s : State) : Cond → Bool
  | .nz => !s.flags.z
  | .z  => s.flags.z
  | .nc => !s.flags.c
  | .c  => s.flags.c

/-- `add8(a, v, cin)` (R250). -/
def add8 (a v : Byte) (cin : Bool) : Byte × Flags :=
  let sum := a.toNat + v.toNat + cin.toNat
  let r := BitVec.ofNat 8 sum
  (r, { z := r == 0, n := false,
        h := decide ((a &&& 0x0F).toNat + (v &&& 0x0F).toNat + cin.toNat > 0x0F), c := decide (sum > 0xFF) })

/-- `sub8(a, v, cin)` (R250). -/
def sub8 (a v : Byte) (cin : Bool) : Byte × Flags :=
  let diff : Int := (a.toNat : Int) - v.toNat - cin.toNat
  let r := BitVec.ofInt 8 diff
  (r, { z := r == 0, n := true,
        h := decide ((a &&& 0x0F).toNat < (v &&& 0x0F).toNat + cin.toNat), c := decide (diff < 0) })

/-- AND (R263): H is 1, C is 0. -/
def and8 (a v : Byte) : Byte × Flags := (a &&& v, { z := a &&& v == 0, n := false, h := true, c := false })

/-- XOR (R266). -/
def xor8 (a v : Byte) : Byte × Flags := (a ^^^ v, { z := a ^^^ v == 0, n := false, h := false, c := false })

/-- OR (R269). -/
def or8 (a v : Byte) : Byte × Flags := (a ||| v, { z := a ||| v == 0, n := false, h := false, c := false })

/-- What an operation of R93 leaves in A, and the flags, from A, the operand and the old carry. CP leaves A (R272). -/
def alu8 (op : AluOp) (a v : Byte) (carry : Bool) : Byte × Flags :=
  match op with
  | .add => add8 a v false
  | .adc => add8 a v carry
  | .sub => sub8 a v false
  | .sbc => sub8 a v carry
  | .and => and8 a v
  | .xor => xor8 a v
  | .or  => or8 a v
  | .cp  => (a, (sub8 a v false).2)

/-- INC of a byte: C is kept (R275, R276). -/
def inc8 (old : Byte) (g : Flags) : Byte × Flags :=
  (old + 1, { g with z := old + 1 == 0, n := false, h := old &&& 0x0F == 0x0F })

/-- DEC of a byte: C is kept (R277, R278). -/
def dec8 (old : Byte) (g : Flags) : Byte × Flags :=
  (old - 1, { g with z := old - 1 == 0, n := true, h := old &&& 0x0F == 0x00 })

/-- DAA (R279): the adjusted A and the flags, for every input. -/
def daa8 (a : Byte) (g : Flags) : Byte × Flags :=
  if g.n then
    let a1 := if g.c then a - 0x60 else a
    let a2 := if g.h then a1 - 0x06 else a1
    (a2, { g with z := a2 == 0, h := false })
  else
    let carryOut := g.c || decide (a.toNat > 0x99)
    let a1 := if carryOut then a + 0x60 else a
    let a2 := if g.h || decide ((a1 &&& 0x0F).toNat > 0x09) then a1 + 0x06 else a1
    (a2, { g with z := a2 == 0, h := false, c := carryOut })

/-- ADD HL,r16 (R290): Z is kept, H is the carry out of bit 11, C the carry out of bit 15. -/
def add16 (a v : Word) (g : Flags) : Word × Flags :=
  let sum := a.toNat + v.toNat
  (BitVec.ofNat 16 sum,
    { g with n := false, h := decide ((a &&& 0x0FFF).toNat + (v &&& 0x0FFF).toNat > 0x0FFF), c := decide (sum > 0xFFFF) })

/-- SP plus a signed displacement (R233, R293): H and C come from the unsigned add of the low byte. -/
def addSigned (sp : Word) (e : Byte) : Word × Flags :=
  (sp + sext16 e,
    { z := false, n := false,
      h := decide ((sp &&& 0x000F).toNat + (e &&& 0x0F).toNat > 0x0F),
      c := decide ((sp &&& 0x00FF).toNat + e.toNat > 0xFF) })

/-- A bit as a byte with value 0 or 1. -/
def bitByte (b : Bool) : Byte := if b then 1 else 0

/-- The rotates and shifts of R305 to R320: the result and the bit that becomes C, from the operand and the old carry. -/
def shift8 (op : ShiftOp) (v : Byte) (carry : Bool) : Byte × Bool :=
  match op with
  | .rlc  => ((v <<< 1) ||| bitByte (v.getLsbD 7), v.getLsbD 7)
  | .rrc  => ((v >>> 1) ||| (bitByte (v.getLsbD 0) <<< 7), v.getLsbD 0)
  | .rl   => ((v <<< 1) ||| bitByte carry, v.getLsbD 7)
  | .rr   => ((v >>> 1) ||| (bitByte carry <<< 7), v.getLsbD 0)
  | .sla  => (v <<< 1, v.getLsbD 7)
  | .sra  => ((v >>> 1) ||| (v &&& 0x80), v.getLsbD 0)
  | .swap => (((v &&& 0x0F) <<< 4) ||| (v >>> 4), false)
  | .srl  => (v >>> 1, v.getLsbD 0)

/-- The flags a prefixed rotate or shift writes (R304). -/
def shiftFlags (r : Byte) (c : Bool) : Flags := { z := r == 0, n := false, h := false, c := c }

/-- The flags an accumulator rotate writes: Z is 0 whatever the result (R300 to R303). -/
def accRotateFlags (c : Bool) : Flags := { z := false, n := false, h := false, c := c }

/-- The flags BIT writes (R321): Z is the complement of the tested bit, C is kept. -/
def bitFlags (v : Byte) (b : BitIndex) (g : Flags) : Flags :=
  { g with z := !v.getLsbD b.toNat, n := false, h := true }

/-- `1 << b` (R323 to R326). -/
def bitMask (b : BitIndex) : Byte := (1 : Byte) <<< b.toNat

end Sys2Proof.Machine
end

