-- ==== Sys2Proof/Machine/Mmu.lean ====
section
/-! DEFINITION. The MMU (20_memory.md rules R50 to R53, R60): the plain bytes of the simulator MMU, what any MMU answers, and what each
access of the core and each step of a device makes of it. The core's state takes part through `mmu` and `trace` alone. -/

namespace Sys2Proof.Machine

/-! ### The plain bytes of the simulator MMU (R60) -/

/-- What the byte at an address reads as. -/
def Memory.lookup : Memory → Nat → Byte
  | [], _ => Config.unlistedByte
  | (k, v) :: rest, a => if k = a then v else Memory.lookup rest a

/-- Put an entry in its place, over any entry of the same address. -/
def Memory.insert : Memory → Nat → Byte → Memory
  | [], a, v => [(a, v)]
  | (k, w) :: rest, a, v =>
    if a < k then (a, v) :: (k, w) :: rest
    else if a = k then (a, v) :: rest
    else (k, w) :: Memory.insert rest a v

/-- Store a byte. Storing what an unlisted address reads as takes the entry away, so equal memories are equal lists. -/
def Memory.store (m : Memory) (a : Nat) (v : Byte) : Memory :=
  if v = Config.unlistedByte then m.filter (fun cell => decide (cell.1 ≠ a)) else Memory.insert m a v

/-- The canonical form: addresses strictly rising from `low` and below 2^16, no entry that holds the unlisted byte. -/
def Memory.wfFrom : Nat → Memory → Bool
  | _, [] => true
  | low, (k, v) :: rest =>
    decide (low ≤ k) && decide (k < 65536) && decide (v ≠ Config.unlistedByte) && Memory.wfFrom (k + 1) rest

/-- The canonical form of a memory. -/
def Memory.wf (m : Memory) : Bool := Memory.wfFrom 0 m

/-! ### The MMU as an argument: what it answers, and what it becomes -/

/-- The MMU is the simulator MMU of R60. -/
def Mmu.isSimulator : Mmu → Bool
  | .simulator _  => true
  | .external _ _ => false

/-- The simulator's bytes are in canonical form; nothing is asked of another MMU. -/
def Mmu.wf : Mmu → Bool
  | .simulator m  => m.wf
  | .external _ _ => true

/-- What a read of an address answers now. -/
def Mmu.answer : Mmu → Word → Byte
  | .simulator m, a                 => Memory.lookup m a.toNat
  | .external (v :: _) _, _         => v
  | .external [] history, a         => Config.mmuAnswer history a

/-- The MMU told one event, for an MMU that is not the simulator. -/
def Mmu.told (given : List Byte) (history : List MmuEvent) (e : MmuEvent) : Mmu := .external given (history ++ [e])

/-- The MMU after a read: any MMU but the simulator may have changed (R60). -/
def Mmu.afterRead : Mmu → Word → Mmu
  | .simulator m, _            => .simulator m
  | .external given history, a =>
    Mmu.told given.tail history (.access (.read a ((Mmu.external given history).answer a)))

/-- The MMU after a write (R51). -/
def Mmu.afterWrite : Mmu → Word → Byte → Mmu
  | .simulator m, a, v            => .simulator (Memory.store m a.toNat v)
  | .external given history, a, v => Mmu.told given history (.access (.write a v))

/-- The MMU after some accesses, in order. -/
def Mmu.afterAccesses (m : Mmu) : List BusEvent → Mmu
  | []                => m
  | .read a _ :: es   => (m.afterRead a).afterAccesses es
  | .write a v :: es  => (m.afterWrite a v).afterAccesses es

/-- The MMU after a device or DMA has written a byte (R455). -/
def Mmu.afterDeviceWrite : Mmu → Word → Byte → Mmu
  | .simulator m, a, v            => .simulator (Memory.store m a.toNat v)
  | .external given history, a, v => Mmu.told given history (.deviceWrite a v)

/-- The MMU after a device has raised a source's pending bit (R411): the bit of IF and no other. -/
def Mmu.afterRequest : Mmu → Source → Mmu
  | .simulator m, k            =>
    .simulator (Memory.store m Config.ifAddr.toNat (Memory.lookup m Config.ifAddr.toNat ||| Config.sourceMask k))
  | .external given history, k => Mmu.told given history (.request k)

/-- The MMU after the host has advanced the devices by some cycles (R455). The simulator has no device that counts them. -/
def Mmu.afterAdvance : Mmu → Nat → Mmu
  | .simulator m, _            => .simulator m
  | .external given history, n => Mmu.told given history (.advance n)

/-! ### The MMU contract -/

/-- The byte that `MemRead(a, 1)` returns (R51, R60). -/
def State.peek (s : State) (a : Word) : Byte := s.mmu.answer a

/-- The state after `MemRead(a, 1)`: the MMU has been read, and the access is an event (R53, R60). -/
def State.noteRead (s : State) (a : Word) : State :=
  { s with mmu := s.mmu.afterRead a, trace := s.trace ++ [.read a (s.peek a)] }

/-- `MemWrite(a, 1, v)` (R51). -/
def State.memWrite (s : State) (a : Word) (v : Byte) : State :=
  { s with mmu := s.mmu.afterWrite a v, trace := s.trace ++ [.write a v] }

/-- The Boolean that `BitRead(a, mask)` returns; its access is the byte read `noteRead` (R52). -/
def State.bitRead (s : State) (a : Word) (mask : Byte) : Bool := s.peek a &&& mask != 0

/-- `BitWrite(a, mask, b)`: a byte read, then a byte write (R52). -/
def State.bitWrite (s : State) (a : Word) (mask : Byte) (b : Bool) : State :=
  (s.noteRead a).memWrite a (if b then s.peek a ||| mask else s.peek a &&& ~~~mask)

end Sys2Proof.Machine
end

