-- ==== Sys2Proof/Machine/Ops.lean ====
section
/-! DEFINITION. The named operations the meanings and the engine share, over the MMU contract of Machine/Mmu.lean: the stack
(40_pipeline.md rules R122, R123), raising a fault (60_exceptions.md rules R415, R416), taking an interrupt (rule R407) and returning
from one (46_control.md rule R340), and what an effect returns (40_pipeline.md rule R114). -/

namespace Sys2Proof.Machine

/-- The outcome of an effect or of a step. -/
abbrev Result := Host.Outcome State Fault Refusal

/-! ### The stack -/

/-- `push16(v)` (R122): the high byte at `sp - 1`, then the low byte at `sp - 2`, then `sp <- sp - 2`. -/
def State.push16 (s : State) (v : Word) : State :=
  let s1 := s.memWrite (s.sp - 1) (highByte v)
  let s2 := s1.memWrite (s.sp - 2) (lowByte v)
  { s2 with sp := s.sp - 2 }

/-- The value `pop16()` returns: the high byte is read after the low one (R123). -/
def State.topOfStack (s : State) : Word := joinBytes ((s.noteRead s.sp).peek (s.sp + 1)) (s.peek s.sp)

/-- The state after `pop16()`: the low byte is read first, then the high byte, then `sp <- sp + 2` (R123). -/
def State.afterPop (s : State) : State :=
  let s1 := (s.noteRead s.sp).noteRead (s.sp + 1)
  { s1 with sp := s.sp + 2 }

/-! ### Faults and interrupts -/

/-- `raise Fault(kind, info)` (R415, R416): the fault is recorded and returned; nothing else changes and nothing is pushed. -/
def State.raise (s : State) (x : Fault) : State := { s with fault := some x, result := some (.faulted x) }

/-- Go on with a call unless a fault has ended it (R111). -/
def State.andThen (s : State) (go : State → State) : State := if s.fault.isNone then go s else s

/-- Taking an interrupt (R407), in the order listed: clear `ime`; clear the source's IF bit; push `pc`; load the vector. -/
def State.serviceInterrupt (s : State) (k : Source) : State :=
  let s1 := { s with ime := false }
  let s2 := s1.bitWrite Config.ifAddr (Config.sourceMask k) false
  let s3 := s2.push16 s2.pc
  { s3 with pc := Config.sourceVector k }

/-- Returning from an interrupt (R340, R413): the pushed address is popped into `pc`, then `ime` is set. -/
def State.returnFromInterrupt (s : State) : State :=
  { s.afterPop with pc := s.topOfStack, ime := true }

/-! ### What an effect returns -/

/-- The effect returns its actual cycle count (R114). -/
def State.done (s : State) (n : Nat) : State := { s with result := some (.cycles n) }

/-- `i.addr` of the executing instruction (R30). With no `current`, which no step of the engine has while an effect runs, it is
the address that R113 gives a post-advance `pc`. DESIGN CHOICE (log 12), safe. -/
def State.currentAddr (s : State) (len : Nat) : Word :=
  match s.current with
  | some p => p.addr
  | none   => s.pc - BitVec.ofNat 16 len

end Sys2Proof.Machine
end

