-- ==== Sys2Proof/Machine/Alu16.lean ====
section
/-! DEFINITION. The 16-bit arithmetic of the reference table (44_alu16.md rules R290 to R293): the shared operations, then one
meaning per row of the opcode table. -/

namespace Sys2Proof.Machine

/-- `ADD HL,r16` (R290). -/
def addHl (p : Pair) (s : State) : Result :=
  let r := add16 (s.pair .hl) (s.pair p) s.flags
  .next (((s.setPair .hl r.1).setFlags r.2).done 8)

/-- `INC r16` (R291): no flag. -/
def incrementPair (p : Pair) (s : State) : Result := .next ((s.setPair p (s.pair p + 1)).done 8)

/-- `DEC r16` (R292): no flag. -/
def decrementPair (p : Pair) (s : State) : Result := .next ((s.setPair p (s.pair p - 1)).done 8)

/-- `ADD SP,e8` (R293). -/
def addSpDisp (e : Byte) (s : State) : Result :=
  let r := addSigned s.sp e
  .next ((State.setFlags { s with sp := r.1 } r.2).done 16)

/-! ### One meaning per row -/

/-- `INC BC` (R291). -/
def execIncBc (s : State) : Result := incrementPair .bc s

/-- `ADD HL,BC` (R290). -/
def execAddHlBc (s : State) : Result := addHl .bc s

/-- `DEC BC` (R292). -/
def execDecBc (s : State) : Result := decrementPair .bc s

/-- `INC DE` (R291). -/
def execIncDe (s : State) : Result := incrementPair .de s

/-- `ADD HL,DE` (R290). -/
def execAddHlDe (s : State) : Result := addHl .de s

/-- `DEC DE` (R292). -/
def execDecDe (s : State) : Result := decrementPair .de s

/-- `INC HL` (R291). -/
def execIncHl (s : State) : Result := incrementPair .hl s

/-- `ADD HL,HL` (R290). -/
def execAddHlHl (s : State) : Result := addHl .hl s

/-- `DEC HL` (R292). -/
def execDecHl (s : State) : Result := decrementPair .hl s

/-- `INC SP` (R291). -/
def execIncSp (s : State) : Result := incrementPair .sp s

/-- `ADD HL,SP` (R290). -/
def execAddHlSp (s : State) : Result := addHl .sp s

/-- `DEC SP` (R292). -/
def execDecSp (s : State) : Result := decrementPair .sp s

/-- `ADD SP,e8` (R293). -/
def execAddSpE8 (e : Byte) (s : State) : Result := addSpDisp e s

end Sys2Proof.Machine
end

