-- ==== Sys2Proof/Machine/Alu8.lean ====
section
/-! DEFINITION. The 8-bit arithmetic and logic of the reference table (43_alu8.md rules R251 to R282): the shared operations, then
one meaning per row of the opcode table. -/

namespace Sys2Proof.Machine

/-- A operation operand, for an operand already read: A and the flags (R250 to R274). -/
def State.aluWith (s : State) (op : AluOp) (v : Byte) : State :=
  let r := alu8 op s.a v s.flags.c
  State.setFlags { s with a := r.1 } r.2

/-- The register forms (R251, R254, R257, R260, R263, R266, R269, R272). -/
def aluReg (op : AluOp) (r : Reg8) (s : State) : Result := .next ((s.aluWith op (s.reg r)).done 4)

/-- The (HL) forms: one read (R252, R255, R258, R261, R264, R267, R270, R273). -/
def aluInd (op : AluOp) (s : State) : Result :=
  .next (((s.noteRead (s.pair .hl)).aluWith op (s.peek (s.pair .hl))).done 8)

/-- The immediate forms (R253, R256, R259, R262, R265, R268, R271, R274). -/
def aluImm (op : AluOp) (n : Byte) (s : State) : Result := .next ((s.aluWith op n).done 8)

/-- `INC r` (R275). -/
def incrementReg (r : Reg8) (s : State) : Result :=
  let x := inc8 (s.reg r) s.flags
  .next (((s.setReg r x.1).setFlags x.2).done 4)

/-- `INC (HL)` (R276): one read, then one write. -/
def incrementInd (s : State) : Result :=
  let a := s.pair .hl
  let x := inc8 (s.peek a) s.flags
  .next ((((s.noteRead a).memWrite a x.1).setFlags x.2).done 12)

/-- `DEC r` (R277). -/
def decrementReg (r : Reg8) (s : State) : Result :=
  let x := dec8 (s.reg r) s.flags
  .next (((s.setReg r x.1).setFlags x.2).done 4)

/-- `DEC (HL)` (R278): one read, then one write. -/
def decrementInd (s : State) : Result :=
  let a := s.pair .hl
  let x := dec8 (s.peek a) s.flags
  .next ((((s.noteRead a).memWrite a x.1).setFlags x.2).done 12)

/-! ### One meaning per row -/

/-- `INC B` (R275). -/
def execIncB (s : State) : Result := incrementReg .b s

/-- `DEC B` (R277). -/
def execDecB (s : State) : Result := decrementReg .b s

/-- `INC C` (R275). -/
def execIncC (s : State) : Result := incrementReg .c s

/-- `DEC C` (R277). -/
def execDecC (s : State) : Result := decrementReg .c s

/-- `INC D` (R275). -/
def execIncD (s : State) : Result := incrementReg .d s

/-- `DEC D` (R277). -/
def execDecD (s : State) : Result := decrementReg .d s

/-- `INC E` (R275). -/
def execIncE (s : State) : Result := incrementReg .e s

/-- `DEC E` (R277). -/
def execDecE (s : State) : Result := decrementReg .e s

/-- `INC H` (R275). -/
def execIncH (s : State) : Result := incrementReg .h s

/-- `DEC H` (R277). -/
def execDecH (s : State) : Result := decrementReg .h s

/-- `DAA` (R279). -/
def execDaa (s : State) : Result :=
  let r := daa8 s.a s.flags
  .next ((State.setFlags { s with a := r.1 } r.2).done 4)

/-- `INC L` (R275). -/
def execIncL (s : State) : Result := incrementReg .l s

/-- `DEC L` (R277). -/
def execDecL (s : State) : Result := decrementReg .l s

/-- `CPL` (R280). -/
def execCpl (s : State) : Result :=
  .next ((State.setFlags { s with a := ~~~s.a } { s.flags with n := true, h := true }).done 4)

/-- `INC (HL)` (R276). -/
def execIncIndHl (s : State) : Result := incrementInd s

/-- `DEC (HL)` (R278). -/
def execDecIndHl (s : State) : Result := decrementInd s

/-- `SCF` (R281). -/
def execScf (s : State) : Result :=
  .next ((s.setFlags { s.flags with n := false, h := false, c := true }).done 4)

/-- `INC A` (R275). -/
def execIncA (s : State) : Result := incrementReg .a s

/-- `DEC A` (R277). -/
def execDecA (s : State) : Result := decrementReg .a s

/-- `CCF` (R282). -/
def execCcf (s : State) : Result :=
  .next ((s.setFlags { s.flags with n := false, h := false, c := !s.flags.c }).done 4)

/-- `ADD A,B` (R251). -/
def execAddAB (s : State) : Result := aluReg .add .b s

/-- `ADD A,C` (R251). -/
def execAddAC (s : State) : Result := aluReg .add .c s

/-- `ADD A,D` (R251). -/
def execAddAD (s : State) : Result := aluReg .add .d s

/-- `ADD A,E` (R251). -/
def execAddAE (s : State) : Result := aluReg .add .e s

/-- `ADD A,H` (R251). -/
def execAddAH (s : State) : Result := aluReg .add .h s

/-- `ADD A,L` (R251). -/
def execAddAL (s : State) : Result := aluReg .add .l s

/-- `ADD A,(HL)` (R252). -/
def execAddAIndHl (s : State) : Result := aluInd .add s

/-- `ADD A,A` (R251). -/
def execAddAA (s : State) : Result := aluReg .add .a s

/-- `ADC A,B` (R254). -/
def execAdcAB (s : State) : Result := aluReg .adc .b s

/-- `ADC A,C` (R254). -/
def execAdcAC (s : State) : Result := aluReg .adc .c s

/-- `ADC A,D` (R254). -/
def execAdcAD (s : State) : Result := aluReg .adc .d s

/-- `ADC A,E` (R254). -/
def execAdcAE (s : State) : Result := aluReg .adc .e s

/-- `ADC A,H` (R254). -/
def execAdcAH (s : State) : Result := aluReg .adc .h s

/-- `ADC A,L` (R254). -/
def execAdcAL (s : State) : Result := aluReg .adc .l s

/-- `ADC A,(HL)` (R255). -/
def execAdcAIndHl (s : State) : Result := aluInd .adc s

/-- `ADC A,A` (R254). -/
def execAdcAA (s : State) : Result := aluReg .adc .a s

/-- `SUB B` (R257). -/
def execSubB (s : State) : Result := aluReg .sub .b s

/-- `SUB C` (R257). -/
def execSubC (s : State) : Result := aluReg .sub .c s

/-- `SUB D` (R257). -/
def execSubD (s : State) : Result := aluReg .sub .d s

/-- `SUB E` (R257). -/
def execSubE (s : State) : Result := aluReg .sub .e s

/-- `SUB H` (R257). -/
def execSubH (s : State) : Result := aluReg .sub .h s

/-- `SUB L` (R257). -/
def execSubL (s : State) : Result := aluReg .sub .l s

/-- `SUB (HL)` (R258). -/
def execSubIndHl (s : State) : Result := aluInd .sub s

/-- `SUB A` (R257). -/
def execSubA (s : State) : Result := aluReg .sub .a s

/-- `SBC A,B` (R260). -/
def execSbcAB (s : State) : Result := aluReg .sbc .b s

/-- `SBC A,C` (R260). -/
def execSbcAC (s : State) : Result := aluReg .sbc .c s

/-- `SBC A,D` (R260). -/
def execSbcAD (s : State) : Result := aluReg .sbc .d s

/-- `SBC A,E` (R260). -/
def execSbcAE (s : State) : Result := aluReg .sbc .e s

/-- `SBC A,H` (R260). -/
def execSbcAH (s : State) : Result := aluReg .sbc .h s

/-- `SBC A,L` (R260). -/
def execSbcAL (s : State) : Result := aluReg .sbc .l s

/-- `SBC A,(HL)` (R261). -/
def execSbcAIndHl (s : State) : Result := aluInd .sbc s

/-- `SBC A,A` (R260). -/
def execSbcAA (s : State) : Result := aluReg .sbc .a s

/-- `AND B` (R263). -/
def execAndB (s : State) : Result := aluReg .and .b s

/-- `AND C` (R263). -/
def execAndC (s : State) : Result := aluReg .and .c s

/-- `AND D` (R263). -/
def execAndD (s : State) : Result := aluReg .and .d s

/-- `AND E` (R263). -/
def execAndE (s : State) : Result := aluReg .and .e s

/-- `AND H` (R263). -/
def execAndH (s : State) : Result := aluReg .and .h s

/-- `AND L` (R263). -/
def execAndL (s : State) : Result := aluReg .and .l s

/-- `AND (HL)` (R264). -/
def execAndIndHl (s : State) : Result := aluInd .and s

/-- `AND A` (R263). -/
def execAndA (s : State) : Result := aluReg .and .a s

/-- `XOR B` (R266). -/
def execXorB (s : State) : Result := aluReg .xor .b s

/-- `XOR C` (R266). -/
def execXorC (s : State) : Result := aluReg .xor .c s

/-- `XOR D` (R266). -/
def execXorD (s : State) : Result := aluReg .xor .d s

/-- `XOR E` (R266). -/
def execXorE (s : State) : Result := aluReg .xor .e s

/-- `XOR H` (R266). -/
def execXorH (s : State) : Result := aluReg .xor .h s

/-- `XOR L` (R266). -/
def execXorL (s : State) : Result := aluReg .xor .l s

/-- `XOR (HL)` (R267). -/
def execXorIndHl (s : State) : Result := aluInd .xor s

/-- `XOR A` (R266). -/
def execXorA (s : State) : Result := aluReg .xor .a s

/-- `OR B` (R269). -/
def execOrB (s : State) : Result := aluReg .or .b s

/-- `OR C` (R269). -/
def execOrC (s : State) : Result := aluReg .or .c s

/-- `OR D` (R269). -/
def execOrD (s : State) : Result := aluReg .or .d s

/-- `OR E` (R269). -/
def execOrE (s : State) : Result := aluReg .or .e s

/-- `OR H` (R269). -/
def execOrH (s : State) : Result := aluReg .or .h s

/-- `OR L` (R269). -/
def execOrL (s : State) : Result := aluReg .or .l s

/-- `OR (HL)` (R270). -/
def execOrIndHl (s : State) : Result := aluInd .or s

/-- `OR A` (R269). -/
def execOrA (s : State) : Result := aluReg .or .a s

/-- `CP B` (R272). -/
def execCpB (s : State) : Result := aluReg .cp .b s

/-- `CP C` (R272). -/
def execCpC (s : State) : Result := aluReg .cp .c s

/-- `CP D` (R272). -/
def execCpD (s : State) : Result := aluReg .cp .d s

/-- `CP E` (R272). -/
def execCpE (s : State) : Result := aluReg .cp .e s

/-- `CP H` (R272). -/
def execCpH (s : State) : Result := aluReg .cp .h s

/-- `CP L` (R272). -/
def execCpL (s : State) : Result := aluReg .cp .l s

/-- `CP (HL)` (R273). -/
def execCpIndHl (s : State) : Result := aluInd .cp s

/-- `CP A` (R272). -/
def execCpA (s : State) : Result := aluReg .cp .a s

/-- `ADD A,n8` (R253). -/
def execAddAN8 (n : Byte) (s : State) : Result := aluImm .add n s

/-- `ADC A,n8` (R256). -/
def execAdcAN8 (n : Byte) (s : State) : Result := aluImm .adc n s

/-- `SUB n8` (R259). -/
def execSubN8 (n : Byte) (s : State) : Result := aluImm .sub n s

/-- `SBC A,n8` (R262). -/
def execSbcAN8 (n : Byte) (s : State) : Result := aluImm .sbc n s

/-- `AND n8` (R265). -/
def execAndN8 (n : Byte) (s : State) : Result := aluImm .and n s

/-- `XOR n8` (R268). -/
def execXorN8 (n : Byte) (s : State) : Result := aluImm .xor n s

/-- `OR n8` (R271). -/
def execOrN8 (n : Byte) (s : State) : Result := aluImm .or n s

/-- `CP n8` (R274). -/
def execCpN8 (n : Byte) (s : State) : Result := aluImm .cp n s

end Sys2Proof.Machine
end

