-- ==== Sys2Proof/Machine/Bit.lean ====
section
/-! DEFINITION. Bit test, reset and set of the reference table (45_rotate_shift_bit.md rules R321 to R326): the shared operations,
then one meaning per row of the opcode table. -/

namespace Sys2Proof.Machine

/-- `BIT b,r` (R321): the register is not written. -/
def testBitReg (b : BitIndex) (r : Reg8) (s : State) : Result :=
  .next ((s.setFlags (bitFlags (s.reg r) b s.flags)).done 8)

/-- `BIT b,(HL)` (R322): one read, no write. -/
def testBitInd (b : BitIndex) (s : State) : Result :=
  let a := s.pair .hl
  .next (((s.noteRead a).setFlags (bitFlags (s.peek a) b s.flags)).done 12)

/-- `RES b,r` (R323): no flag. -/
def resetBitReg (b : BitIndex) (r : Reg8) (s : State) : Result :=
  .next ((s.setReg r (s.reg r &&& ~~~bitMask b)).done 8)

/-- `RES b,(HL)` (R324): one read, then one write, even when the bit is already 0. -/
def resetBitInd (b : BitIndex) (s : State) : Result :=
  let a := s.pair .hl
  .next (((s.noteRead a).memWrite a (s.peek a &&& ~~~bitMask b)).done 16)

/-- `SET b,r` (R325): no flag. -/
def setBitReg (b : BitIndex) (r : Reg8) (s : State) : Result :=
  .next ((s.setReg r (s.reg r ||| bitMask b)).done 8)

/-- `SET b,(HL)` (R326): one read, then one write. -/
def setBitInd (b : BitIndex) (s : State) : Result :=
  let a := s.pair .hl
  .next (((s.noteRead a).memWrite a (s.peek a ||| bitMask b)).done 16)

/-! ### One meaning per row -/

/-- `BIT 0,B` (R321). -/
def execBit0B (s : State) : Result := testBitReg .b0 .b s

/-- `BIT 0,C` (R321). -/
def execBit0C (s : State) : Result := testBitReg .b0 .c s

/-- `BIT 0,D` (R321). -/
def execBit0D (s : State) : Result := testBitReg .b0 .d s

/-- `BIT 0,E` (R321). -/
def execBit0E (s : State) : Result := testBitReg .b0 .e s

/-- `BIT 0,H` (R321). -/
def execBit0H (s : State) : Result := testBitReg .b0 .h s

/-- `BIT 0,L` (R321). -/
def execBit0L (s : State) : Result := testBitReg .b0 .l s

/-- `BIT 0,(HL)` (R322). -/
def execBit0IndHl (s : State) : Result := testBitInd .b0 s

/-- `BIT 0,A` (R321). -/
def execBit0A (s : State) : Result := testBitReg .b0 .a s

/-- `BIT 1,B` (R321). -/
def execBit1B (s : State) : Result := testBitReg .b1 .b s

/-- `BIT 1,C` (R321). -/
def execBit1C (s : State) : Result := testBitReg .b1 .c s

/-- `BIT 1,D` (R321). -/
def execBit1D (s : State) : Result := testBitReg .b1 .d s

/-- `BIT 1,E` (R321). -/
def execBit1E (s : State) : Result := testBitReg .b1 .e s

/-- `BIT 1,H` (R321). -/
def execBit1H (s : State) : Result := testBitReg .b1 .h s

/-- `BIT 1,L` (R321). -/
def execBit1L (s : State) : Result := testBitReg .b1 .l s

/-- `BIT 1,(HL)` (R322). -/
def execBit1IndHl (s : State) : Result := testBitInd .b1 s

/-- `BIT 1,A` (R321). -/
def execBit1A (s : State) : Result := testBitReg .b1 .a s

/-- `BIT 2,B` (R321). -/
def execBit2B (s : State) : Result := testBitReg .b2 .b s

/-- `BIT 2,C` (R321). -/
def execBit2C (s : State) : Result := testBitReg .b2 .c s

/-- `BIT 2,D` (R321). -/
def execBit2D (s : State) : Result := testBitReg .b2 .d s

/-- `BIT 2,E` (R321). -/
def execBit2E (s : State) : Result := testBitReg .b2 .e s

/-- `BIT 2,H` (R321). -/
def execBit2H (s : State) : Result := testBitReg .b2 .h s

/-- `BIT 2,L` (R321). -/
def execBit2L (s : State) : Result := testBitReg .b2 .l s

/-- `BIT 2,(HL)` (R322). -/
def execBit2IndHl (s : State) : Result := testBitInd .b2 s

/-- `BIT 2,A` (R321). -/
def execBit2A (s : State) : Result := testBitReg .b2 .a s

/-- `BIT 3,B` (R321). -/
def execBit3B (s : State) : Result := testBitReg .b3 .b s

/-- `BIT 3,C` (R321). -/
def execBit3C (s : State) : Result := testBitReg .b3 .c s

/-- `BIT 3,D` (R321). -/
def execBit3D (s : State) : Result := testBitReg .b3 .d s

/-- `BIT 3,E` (R321). -/
def execBit3E (s : State) : Result := testBitReg .b3 .e s

/-- `BIT 3,H` (R321). -/
def execBit3H (s : State) : Result := testBitReg .b3 .h s

/-- `BIT 3,L` (R321). -/
def execBit3L (s : State) : Result := testBitReg .b3 .l s

/-- `BIT 3,(HL)` (R322). -/
def execBit3IndHl (s : State) : Result := testBitInd .b3 s

/-- `BIT 3,A` (R321). -/
def execBit3A (s : State) : Result := testBitReg .b3 .a s

/-- `BIT 4,B` (R321). -/
def execBit4B (s : State) : Result := testBitReg .b4 .b s

/-- `BIT 4,C` (R321). -/
def execBit4C (s : State) : Result := testBitReg .b4 .c s

/-- `BIT 4,D` (R321). -/
def execBit4D (s : State) : Result := testBitReg .b4 .d s

/-- `BIT 4,E` (R321). -/
def execBit4E (s : State) : Result := testBitReg .b4 .e s

/-- `BIT 4,H` (R321). -/
def execBit4H (s : State) : Result := testBitReg .b4 .h s

/-- `BIT 4,L` (R321). -/
def execBit4L (s : State) : Result := testBitReg .b4 .l s

/-- `BIT 4,(HL)` (R322). -/
def execBit4IndHl (s : State) : Result := testBitInd .b4 s

/-- `BIT 4,A` (R321). -/
def execBit4A (s : State) : Result := testBitReg .b4 .a s

/-- `BIT 5,B` (R321). -/
def execBit5B (s : State) : Result := testBitReg .b5 .b s

/-- `BIT 5,C` (R321). -/
def execBit5C (s : State) : Result := testBitReg .b5 .c s

/-- `BIT 5,D` (R321). -/
def execBit5D (s : State) : Result := testBitReg .b5 .d s

/-- `BIT 5,E` (R321). -/
def execBit5E (s : State) : Result := testBitReg .b5 .e s

/-- `BIT 5,H` (R321). -/
def execBit5H (s : State) : Result := testBitReg .b5 .h s

/-- `BIT 5,L` (R321). -/
def execBit5L (s : State) : Result := testBitReg .b5 .l s

/-- `BIT 5,(HL)` (R322). -/
def execBit5IndHl (s : State) : Result := testBitInd .b5 s

/-- `BIT 5,A` (R321). -/
def execBit5A (s : State) : Result := testBitReg .b5 .a s

/-- `BIT 6,B` (R321). -/
def execBit6B (s : State) : Result := testBitReg .b6 .b s

/-- `BIT 6,C` (R321). -/
def execBit6C (s : State) : Result := testBitReg .b6 .c s

/-- `BIT 6,D` (R321). -/
def execBit6D (s : State) : Result := testBitReg .b6 .d s

/-- `BIT 6,E` (R321). -/
def execBit6E (s : State) : Result := testBitReg .b6 .e s

/-- `BIT 6,H` (R321). -/
def execBit6H (s : State) : Result := testBitReg .b6 .h s

/-- `BIT 6,L` (R321). -/
def execBit6L (s : State) : Result := testBitReg .b6 .l s

/-- `BIT 6,(HL)` (R322). -/
def execBit6IndHl (s : State) : Result := testBitInd .b6 s

/-- `BIT 6,A` (R321). -/
def execBit6A (s : State) : Result := testBitReg .b6 .a s

/-- `BIT 7,B` (R321). -/
def execBit7B (s : State) : Result := testBitReg .b7 .b s

/-- `BIT 7,C` (R321). -/
def execBit7C (s : State) : Result := testBitReg .b7 .c s

/-- `BIT 7,D` (R321). -/
def execBit7D (s : State) : Result := testBitReg .b7 .d s

/-- `BIT 7,E` (R321). -/
def execBit7E (s : State) : Result := testBitReg .b7 .e s

/-- `BIT 7,H` (R321). -/
def execBit7H (s : State) : Result := testBitReg .b7 .h s

/-- `BIT 7,L` (R321). -/
def execBit7L (s : State) : Result := testBitReg .b7 .l s

/-- `BIT 7,(HL)` (R322). -/
def execBit7IndHl (s : State) : Result := testBitInd .b7 s

/-- `BIT 7,A` (R321). -/
def execBit7A (s : State) : Result := testBitReg .b7 .a s

/-- `RES 0,B` (R323). -/
def execRes0B (s : State) : Result := resetBitReg .b0 .b s

/-- `RES 0,C` (R323). -/
def execRes0C (s : State) : Result := resetBitReg .b0 .c s

/-- `RES 0,D` (R323). -/
def execRes0D (s : State) : Result := resetBitReg .b0 .d s

/-- `RES 0,E` (R323). -/
def execRes0E (s : State) : Result := resetBitReg .b0 .e s

/-- `RES 0,H` (R323). -/
def execRes0H (s : State) : Result := resetBitReg .b0 .h s

/-- `RES 0,L` (R323). -/
def execRes0L (s : State) : Result := resetBitReg .b0 .l s

/-- `RES 0,(HL)` (R324). -/
def execRes0IndHl (s : State) : Result := resetBitInd .b0 s

/-- `RES 0,A` (R323). -/
def execRes0A (s : State) : Result := resetBitReg .b0 .a s

/-- `RES 1,B` (R323). -/
def execRes1B (s : State) : Result := resetBitReg .b1 .b s

/-- `RES 1,C` (R323). -/
def execRes1C (s : State) : Result := resetBitReg .b1 .c s

/-- `RES 1,D` (R323). -/
def execRes1D (s : State) : Result := resetBitReg .b1 .d s

/-- `RES 1,E` (R323). -/
def execRes1E (s : State) : Result := resetBitReg .b1 .e s

/-- `RES 1,H` (R323). -/
def execRes1H (s : State) : Result := resetBitReg .b1 .h s

/-- `RES 1,L` (R323). -/
def execRes1L (s : State) : Result := resetBitReg .b1 .l s

/-- `RES 1,(HL)` (R324). -/
def execRes1IndHl (s : State) : Result := resetBitInd .b1 s

/-- `RES 1,A` (R323). -/
def execRes1A (s : State) : Result := resetBitReg .b1 .a s

/-- `RES 2,B` (R323). -/
def execRes2B (s : State) : Result := resetBitReg .b2 .b s

/-- `RES 2,C` (R323). -/
def execRes2C (s : State) : Result := resetBitReg .b2 .c s

/-- `RES 2,D` (R323). -/
def execRes2D (s : State) : Result := resetBitReg .b2 .d s

/-- `RES 2,E` (R323). -/
def execRes2E (s : State) : Result := resetBitReg .b2 .e s

/-- `RES 2,H` (R323). -/
def execRes2H (s : State) : Result := resetBitReg .b2 .h s

/-- `RES 2,L` (R323). -/
def execRes2L (s : State) : Result := resetBitReg .b2 .l s

/-- `RES 2,(HL)` (R324). -/
def execRes2IndHl (s : State) : Result := resetBitInd .b2 s

/-- `RES 2,A` (R323). -/
def execRes2A (s : State) : Result := resetBitReg .b2 .a s

/-- `RES 3,B` (R323). -/
def execRes3B (s : State) : Result := resetBitReg .b3 .b s

/-- `RES 3,C` (R323). -/
def execRes3C (s : State) : Result := resetBitReg .b3 .c s

/-- `RES 3,D` (R323). -/
def execRes3D (s : State) : Result := resetBitReg .b3 .d s

/-- `RES 3,E` (R323). -/
def execRes3E (s : State) : Result := resetBitReg .b3 .e s

/-- `RES 3,H` (R323). -/
def execRes3H (s : State) : Result := resetBitReg .b3 .h s

/-- `RES 3,L` (R323). -/
def execRes3L (s : State) : Result := resetBitReg .b3 .l s

/-- `RES 3,(HL)` (R324). -/
def execRes3IndHl (s : State) : Result := resetBitInd .b3 s

/-- `RES 3,A` (R323). -/
def execRes3A (s : State) : Result := resetBitReg .b3 .a s

/-- `RES 4,B` (R323). -/
def execRes4B (s : State) : Result := resetBitReg .b4 .b s

/-- `RES 4,C` (R323). -/
def execRes4C (s : State) : Result := resetBitReg .b4 .c s

/-- `RES 4,D` (R323). -/
def execRes4D (s : State) : Result := resetBitReg .b4 .d s

/-- `RES 4,E` (R323). -/
def execRes4E (s : State) : Result := resetBitReg .b4 .e s

/-- `RES 4,H` (R323). -/
def execRes4H (s : State) : Result := resetBitReg .b4 .h s

/-- `RES 4,L` (R323). -/
def execRes4L (s : State) : Result := resetBitReg .b4 .l s

/-- `RES 4,(HL)` (R324). -/
def execRes4IndHl (s : State) : Result := resetBitInd .b4 s

/-- `RES 4,A` (R323). -/
def execRes4A (s : State) : Result := resetBitReg .b4 .a s

/-- `RES 5,B` (R323). -/
def execRes5B (s : State) : Result := resetBitReg .b5 .b s

/-- `RES 5,C` (R323). -/
def execRes5C (s : State) : Result := resetBitReg .b5 .c s

/-- `RES 5,D` (R323). -/
def execRes5D (s : State) : Result := resetBitReg .b5 .d s

/-- `RES 5,E` (R323). -/
def execRes5E (s : State) : Result := resetBitReg .b5 .e s

/-- `RES 5,H` (R323). -/
def execRes5H (s : State) : Result := resetBitReg .b5 .h s

/-- `RES 5,L` (R323). -/
def execRes5L (s : State) : Result := resetBitReg .b5 .l s

/-- `RES 5,(HL)` (R324). -/
def execRes5IndHl (s : State) : Result := resetBitInd .b5 s

/-- `RES 5,A` (R323). -/
def execRes5A (s : State) : Result := resetBitReg .b5 .a s

/-- `RES 6,B` (R323). -/
def execRes6B (s : State) : Result := resetBitReg .b6 .b s

/-- `RES 6,C` (R323). -/
def execRes6C (s : State) : Result := resetBitReg .b6 .c s

/-- `RES 6,D` (R323). -/
def execRes6D (s : State) : Result := resetBitReg .b6 .d s

/-- `RES 6,E` (R323). -/
def execRes6E (s : State) : Result := resetBitReg .b6 .e s

/-- `RES 6,H` (R323). -/
def execRes6H (s : State) : Result := resetBitReg .b6 .h s

/-- `RES 6,L` (R323). -/
def execRes6L (s : State) : Result := resetBitReg .b6 .l s

/-- `RES 6,(HL)` (R324). -/
def execRes6IndHl (s : State) : Result := resetBitInd .b6 s

/-- `RES 6,A` (R323). -/
def execRes6A (s : State) : Result := resetBitReg .b6 .a s

/-- `RES 7,B` (R323). -/
def execRes7B (s : State) : Result := resetBitReg .b7 .b s

/-- `RES 7,C` (R323). -/
def execRes7C (s : State) : Result := resetBitReg .b7 .c s

/-- `RES 7,D` (R323). -/
def execRes7D (s : State) : Result := resetBitReg .b7 .d s

/-- `RES 7,E` (R323). -/
def execRes7E (s : State) : Result := resetBitReg .b7 .e s

/-- `RES 7,H` (R323). -/
def execRes7H (s : State) : Result := resetBitReg .b7 .h s

/-- `RES 7,L` (R323). -/
def execRes7L (s : State) : Result := resetBitReg .b7 .l s

/-- `RES 7,(HL)` (R324). -/
def execRes7IndHl (s : State) : Result := resetBitInd .b7 s

/-- `RES 7,A` (R323). -/
def execRes7A (s : State) : Result := resetBitReg .b7 .a s

/-- `SET 0,B` (R325). -/
def execSet0B (s : State) : Result := setBitReg .b0 .b s

/-- `SET 0,C` (R325). -/
def execSet0C (s : State) : Result := setBitReg .b0 .c s

/-- `SET 0,D` (R325). -/
def execSet0D (s : State) : Result := setBitReg .b0 .d s

/-- `SET 0,E` (R325). -/
def execSet0E (s : State) : Result := setBitReg .b0 .e s

/-- `SET 0,H` (R325). -/
def execSet0H (s : State) : Result := setBitReg .b0 .h s

/-- `SET 0,L` (R325). -/
def execSet0L (s : State) : Result := setBitReg .b0 .l s

/-- `SET 0,(HL)` (R326). -/
def execSet0IndHl (s : State) : Result := setBitInd .b0 s

/-- `SET 0,A` (R325). -/
def execSet0A (s : State) : Result := setBitReg .b0 .a s

/-- `SET 1,B` (R325). -/
def execSet1B (s : State) : Result := setBitReg .b1 .b s

/-- `SET 1,C` (R325). -/
def execSet1C (s : State) : Result := setBitReg .b1 .c s

/-- `SET 1,D` (R325). -/
def execSet1D (s : State) : Result := setBitReg .b1 .d s

/-- `SET 1,E` (R325). -/
def execSet1E (s : State) : Result := setBitReg .b1 .e s

/-- `SET 1,H` (R325). -/
def execSet1H (s : State) : Result := setBitReg .b1 .h s

/-- `SET 1,L` (R325). -/
def execSet1L (s : State) : Result := setBitReg .b1 .l s

/-- `SET 1,(HL)` (R326). -/
def execSet1IndHl (s : State) : Result := setBitInd .b1 s

/-- `SET 1,A` (R325). -/
def execSet1A (s : State) : Result := setBitReg .b1 .a s

/-- `SET 2,B` (R325). -/
def execSet2B (s : State) : Result := setBitReg .b2 .b s

/-- `SET 2,C` (R325). -/
def execSet2C (s : State) : Result := setBitReg .b2 .c s

/-- `SET 2,D` (R325). -/
def execSet2D (s : State) : Result := setBitReg .b2 .d s

/-- `SET 2,E` (R325). -/
def execSet2E (s : State) : Result := setBitReg .b2 .e s

/-- `SET 2,H` (R325). -/
def execSet2H (s : State) : Result := setBitReg .b2 .h s

/-- `SET 2,L` (R325). -/
def execSet2L (s : State) : Result := setBitReg .b2 .l s

/-- `SET 2,(HL)` (R326). -/
def execSet2IndHl (s : State) : Result := setBitInd .b2 s

/-- `SET 2,A` (R325). -/
def execSet2A (s : State) : Result := setBitReg .b2 .a s

/-- `SET 3,B` (R325). -/
def execSet3B (s : State) : Result := setBitReg .b3 .b s

/-- `SET 3,C` (R325). -/
def execSet3C (s : State) : Result := setBitReg .b3 .c s

/-- `SET 3,D` (R325). -/
def execSet3D (s : State) : Result := setBitReg .b3 .d s

/-- `SET 3,E` (R325). -/
def execSet3E (s : State) : Result := setBitReg .b3 .e s

/-- `SET 3,H` (R325). -/
def execSet3H (s : State) : Result := setBitReg .b3 .h s

/-- `SET 3,L` (R325). -/
def execSet3L (s : State) : Result := setBitReg .b3 .l s

/-- `SET 3,(HL)` (R326). -/
def execSet3IndHl (s : State) : Result := setBitInd .b3 s

/-- `SET 3,A` (R325). -/
def execSet3A (s : State) : Result := setBitReg .b3 .a s

/-- `SET 4,B` (R325). -/
def execSet4B (s : State) : Result := setBitReg .b4 .b s

/-- `SET 4,C` (R325). -/
def execSet4C (s : State) : Result := setBitReg .b4 .c s

/-- `SET 4,D` (R325). -/
def execSet4D (s : State) : Result := setBitReg .b4 .d s

/-- `SET 4,E` (R325). -/
def execSet4E (s : State) : Result := setBitReg .b4 .e s

/-- `SET 4,H` (R325). -/
def execSet4H (s : State) : Result := setBitReg .b4 .h s

/-- `SET 4,L` (R325). -/
def execSet4L (s : State) : Result := setBitReg .b4 .l s

/-- `SET 4,(HL)` (R326). -/
def execSet4IndHl (s : State) : Result := setBitInd .b4 s

/-- `SET 4,A` (R325). -/
def execSet4A (s : State) : Result := setBitReg .b4 .a s

/-- `SET 5,B` (R325). -/
def execSet5B (s : State) : Result := setBitReg .b5 .b s

/-- `SET 5,C` (R325). -/
def execSet5C (s : State) : Result := setBitReg .b5 .c s

/-- `SET 5,D` (R325). -/
def execSet5D (s : State) : Result := setBitReg .b5 .d s

/-- `SET 5,E` (R325). -/
def execSet5E (s : State) : Result := setBitReg .b5 .e s

/-- `SET 5,H` (R325). -/
def execSet5H (s : State) : Result := setBitReg .b5 .h s

/-- `SET 5,L` (R325). -/
def execSet5L (s : State) : Result := setBitReg .b5 .l s

/-- `SET 5,(HL)` (R326). -/
def execSet5IndHl (s : State) : Result := setBitInd .b5 s

/-- `SET 5,A` (R325). -/
def execSet5A (s : State) : Result := setBitReg .b5 .a s

/-- `SET 6,B` (R325). -/
def execSet6B (s : State) : Result := setBitReg .b6 .b s

/-- `SET 6,C` (R325). -/
def execSet6C (s : State) : Result := setBitReg .b6 .c s

/-- `SET 6,D` (R325). -/
def execSet6D (s : State) : Result := setBitReg .b6 .d s

/-- `SET 6,E` (R325). -/
def execSet6E (s : State) : Result := setBitReg .b6 .e s

/-- `SET 6,H` (R325). -/
def execSet6H (s : State) : Result := setBitReg .b6 .h s

/-- `SET 6,L` (R325). -/
def execSet6L (s : State) : Result := setBitReg .b6 .l s

/-- `SET 6,(HL)` (R326). -/
def execSet6IndHl (s : State) : Result := setBitInd .b6 s

/-- `SET 6,A` (R325). -/
def execSet6A (s : State) : Result := setBitReg .b6 .a s

/-- `SET 7,B` (R325). -/
def execSet7B (s : State) : Result := setBitReg .b7 .b s

/-- `SET 7,C` (R325). -/
def execSet7C (s : State) : Result := setBitReg .b7 .c s

/-- `SET 7,D` (R325). -/
def execSet7D (s : State) : Result := setBitReg .b7 .d s

/-- `SET 7,E` (R325). -/
def execSet7E (s : State) : Result := setBitReg .b7 .e s

/-- `SET 7,H` (R325). -/
def execSet7H (s : State) : Result := setBitReg .b7 .h s

/-- `SET 7,L` (R325). -/
def execSet7L (s : State) : Result := setBitReg .b7 .l s

/-- `SET 7,(HL)` (R326). -/
def execSet7IndHl (s : State) : Result := setBitInd .b7 s

/-- `SET 7,A` (R325). -/
def execSet7A (s : State) : Result := setBitReg .b7 .a s

end Sys2Proof.Machine
end

