-- ==== Sys2Proof/Machine/Control.lean ====
section
/-! DEFINITION. Control transfer of the reference table (46_control.md rules R331 to R341): the shared operations, then one meaning
per row of the opcode table. `pc` is the post-advance value when an effect runs (40_pipeline.md rule R113). No control transfer
writes a flag. -/

namespace Sys2Proof.Machine

/-- `pc <- target` (R8). -/
def State.jump (s : State) (target : Word) : State := { s with pc := target }

/-- `push16(pc); pc <- target` (R336, R341). -/
def State.call (s : State) (target : Word) : State := (s.push16 s.pc).jump target

/-- `pc <- pop16()` (R338). -/
def State.popToPc (s : State) : State := s.afterPop.jump s.topOfStack

/-- `JP cc,n16` (R332): 16 cycles taken, 12 not. -/
def jumpIf (cc : Cond) (n : Word) (s : State) : Result :=
  if s.cond cc then .next ((s.jump n).done 16) else .next (s.done 12)

/-- `JR cc,e8` (R335): 12 cycles taken, 8 not. -/
def jumpRelIf (cc : Cond) (e : Byte) (s : State) : Result :=
  if s.cond cc then .next ((s.jump (s.pc + sext16 e)).done 12) else .next (s.done 8)

/-- `CALL cc,n16` (R337): 24 cycles taken, 12 not; not taken makes no memory access. -/
def callIf (cc : Cond) (n : Word) (s : State) : Result :=
  if s.cond cc then .next ((s.call n).done 24) else .next (s.done 12)

/-- `RET cc` (R339): 20 cycles taken, 8 not; not taken makes no memory access. -/
def returnIf (cc : Cond) (s : State) : Result :=
  if s.cond cc then .next (s.popToPc.done 20) else .next (s.done 8)

/-- `RST t` (R341). -/
def restart (t : RstTarget) (s : State) : Result := .next ((s.call t.addr).done 16)

/-! ### One meaning per row -/

/-- `JR e8` (R334). -/
def execJrE8 (e : Byte) (s : State) : Result := .next ((s.jump (s.pc + sext16 e)).done 12)

/-- `JR NZ,e8` (R335). -/
def execJrNzE8 (e : Byte) (s : State) : Result := jumpRelIf .nz e s

/-- `JR Z,e8` (R335). -/
def execJrZE8 (e : Byte) (s : State) : Result := jumpRelIf .z e s

/-- `JR NC,e8` (R335). -/
def execJrNcE8 (e : Byte) (s : State) : Result := jumpRelIf .nc e s

/-- `JR C,e8` (R335). -/
def execJrCE8 (e : Byte) (s : State) : Result := jumpRelIf .c e s

/-- `RET NZ` (R339). -/
def execRetNz (s : State) : Result := returnIf .nz s

/-- `JP NZ,n16` (R332). -/
def execJpNzN16 (n : Word) (s : State) : Result := jumpIf .nz n s

/-- `JP n16` (R331). -/
def execJpN16 (n : Word) (s : State) : Result := .next ((s.jump n).done 16)

/-- `CALL NZ,n16` (R337). -/
def execCallNzN16 (n : Word) (s : State) : Result := callIf .nz n s

/-- `RST 0x00` (R341). -/
def execRst00 (s : State) : Result := restart .t00 s

/-- `RET Z` (R339). -/
def execRetZ (s : State) : Result := returnIf .z s

/-- `RET` (R338). -/
def execRet (s : State) : Result := .next (s.popToPc.done 16)

/-- `JP Z,n16` (R332). -/
def execJpZN16 (n : Word) (s : State) : Result := jumpIf .z n s

/-- `CALL Z,n16` (R337). -/
def execCallZN16 (n : Word) (s : State) : Result := callIf .z n s

/-- `CALL n16` (R336). -/
def execCallN16 (n : Word) (s : State) : Result := .next ((s.call n).done 24)

/-- `RST 0x08` (R341). -/
def execRst08 (s : State) : Result := restart .t08 s

/-- `RET NC` (R339). -/
def execRetNc (s : State) : Result := returnIf .nc s

/-- `JP NC,n16` (R332). -/
def execJpNcN16 (n : Word) (s : State) : Result := jumpIf .nc n s

/-- `CALL NC,n16` (R337). -/
def execCallNcN16 (n : Word) (s : State) : Result := callIf .nc n s

/-- `RST 0x10` (R341). -/
def execRst10 (s : State) : Result := restart .t10 s

/-- `RET C` (R339). -/
def execRetC (s : State) : Result := returnIf .c s

/-- `RETI` (R340). -/
def execReti (s : State) : Result := .next (s.returnFromInterrupt.done 16)

/-- `JP C,n16` (R332). -/
def execJpCN16 (n : Word) (s : State) : Result := jumpIf .c n s

/-- `CALL C,n16` (R337). -/
def execCallCN16 (n : Word) (s : State) : Result := callIf .c n s

/-- `RST 0x18` (R341). -/
def execRst18 (s : State) : Result := restart .t18 s

/-- `RST 0x20` (R341). -/
def execRst20 (s : State) : Result := restart .t20 s

/-- `JP HL` (R333). -/
def execJpHl (s : State) : Result := .next ((s.jump (s.pair .hl)).done 4)

/-- `RST 0x28` (R341). -/
def execRst28 (s : State) : Result := restart .t28 s

/-- `RST 0x30` (R341). -/
def execRst30 (s : State) : Result := restart .t30 s

/-- `RST 0x38` (R341). -/
def execRst38 (s : State) : Result := restart .t38 s

end Sys2Proof.Machine
end

