-- ==== Sys2Proof/Machine/Load16.lean ====
section
/-! DEFINITION. The 16-bit loads and the stack instructions of the reference table (42_load16_stack.md rules R230 to R236): the
shared operations, then one meaning per row of the opcode table. -/

namespace Sys2Proof.Machine

/-- `LD r16,n16` (R230). -/
def loadPairImm (p : Pair) (n : Word) (s : State) : Result := .next ((s.setPair p n).done 12)

/-- `LD (n16),SP` (R231): the low byte first, the high byte at the next address modulo 2^16. -/
def storeSp (n : Word) (s : State) : Result :=
  .next (((s.memWrite n (lowByte s.sp)).memWrite (n + 1) (highByte s.sp)).done 20)

/-- `LD SP,HL` (R232). -/
def loadSpHl (s : State) : Result := .next (State.done { s with sp := s.pair .hl } 8)

/-- `LD HL,SP+e8` (R233): `sp` is unchanged. -/
def loadHlSpDisp (e : Byte) (s : State) : Result :=
  let r := addSigned s.sp e
  .next (((s.setPair .hl r.1).setFlags r.2).done 12)

/-- `PUSH r16stk` (R234). -/
def pushPair (p : StackPair) (s : State) : Result := .next ((s.push16 (s.stackPair p)).done 16)

/-- `POP r16stk` (R235, R236): POP AF takes all four flags from the popped low byte, masked. -/
def popPair (p : StackPair) (s : State) : Result := .next ((s.afterPop.setStackPair p s.topOfStack).done 12)

/-! ### One meaning per row -/

/-- `LD BC,n16` (R230). -/
def execLdBcN16 (n : Word) (s : State) : Result := loadPairImm .bc n s

/-- `LD (n16),SP` (R231). -/
def execLdIndN16Sp (n : Word) (s : State) : Result := storeSp n s

/-- `LD DE,n16` (R230). -/
def execLdDeN16 (n : Word) (s : State) : Result := loadPairImm .de n s

/-- `LD HL,n16` (R230). -/
def execLdHlN16 (n : Word) (s : State) : Result := loadPairImm .hl n s

/-- `LD SP,n16` (R230). -/
def execLdSpN16 (n : Word) (s : State) : Result := loadPairImm .sp n s

/-- `POP BC` (R235). -/
def execPopBc (s : State) : Result := popPair .bc s

/-- `PUSH BC` (R234). -/
def execPushBc (s : State) : Result := pushPair .bc s

/-- `POP DE` (R235). -/
def execPopDe (s : State) : Result := popPair .de s

/-- `PUSH DE` (R234). -/
def execPushDe (s : State) : Result := pushPair .de s

/-- `POP HL` (R235). -/
def execPopHl (s : State) : Result := popPair .hl s

/-- `PUSH HL` (R234). -/
def execPushHl (s : State) : Result := pushPair .hl s

/-- `POP AF` (R236). -/
def execPopAf (s : State) : Result := popPair .af s

/-- `PUSH AF` (R234). -/
def execPushAf (s : State) : Result := pushPair .af s

/-- `LD HL,SP+e8` (R233). -/
def execLdHlSpE8 (e : Byte) (s : State) : Result := loadHlSpDisp e s

/-- `LD SP,HL` (R232). -/
def execLdSpHl (s : State) : Result := loadSpHl s

end Sys2Proof.Machine
end

