-- ==== Sys2Proof/Machine/Load8.lean ====
section
/-! DEFINITION. The 8-bit loads of the reference table (41_load8.md rules R201 to R219): the shared operations, then one meaning
per row of the opcode table. No load writes a flag. -/

namespace Sys2Proof.Machine

/-- `LD r,r'` (R201). -/
def loadRegReg (dst src : Reg8) (s : State) : Result := .next ((s.setReg dst (s.reg src)).done 4)

/-- `LD r,n8` (R202). -/
def loadRegImm (dst : Reg8) (n : Byte) (s : State) : Result := .next ((s.setReg dst n).done 8)

/-- A load of a register from a memory operand: one read, the register, then the operand's update of HL (R203, R206, R207, R210,
R212, R214, R216, R217). -/
def loadRegMem (dst : Reg8) (m : MemOperand) (cycles : Nat) (s : State) : Result :=
  let a := s.operandAddr m
  .next ((((s.noteRead a).setReg dst (s.peek a)).postUpdate m).done cycles)

/-- A store of a byte to a memory operand: one write, then the operand's update of HL (R204, R205, R208, R209, R211, R213, R215,
R218, R219). -/
def storeMem (m : MemOperand) (v : Byte) (cycles : Nat) (s : State) : Result :=
  .next (((s.memWrite (s.operandAddr m) v).postUpdate m).done cycles)

/-! ### One meaning per row -/

/-- `LD (BC),A` (R208). -/
def execLdIndBcA (s : State) : Result := storeMem .bc s.a 8 s

/-- `LD B,n8` (R202). -/
def execLdBN8 (n : Byte) (s : State) : Result := loadRegImm .b n s

/-- `LD A,(BC)` (R206). -/
def execLdAIndBc (s : State) : Result := loadRegMem .a .bc 8 s

/-- `LD C,n8` (R202). -/
def execLdCN8 (n : Byte) (s : State) : Result := loadRegImm .c n s

/-- `LD (DE),A` (R209). -/
def execLdIndDeA (s : State) : Result := storeMem .de s.a 8 s

/-- `LD D,n8` (R202). -/
def execLdDN8 (n : Byte) (s : State) : Result := loadRegImm .d n s

/-- `LD A,(DE)` (R207). -/
def execLdAIndDe (s : State) : Result := loadRegMem .a .de 8 s

/-- `LD E,n8` (R202). -/
def execLdEN8 (n : Byte) (s : State) : Result := loadRegImm .e n s

/-- `LD (HL+),A` (R218). -/
def execLdIndHliA (s : State) : Result := storeMem .hlInc s.a 8 s

/-- `LD H,n8` (R202). -/
def execLdHN8 (n : Byte) (s : State) : Result := loadRegImm .h n s

/-- `LD A,(HL+)` (R216). -/
def execLdAIndHli (s : State) : Result := loadRegMem .a .hlInc 8 s

/-- `LD L,n8` (R202). -/
def execLdLN8 (n : Byte) (s : State) : Result := loadRegImm .l n s

/-- `LD (HL-),A` (R219). -/
def execLdIndHldA (s : State) : Result := storeMem .hlDec s.a 8 s

/-- `LD (HL),n8` (R205). -/
def execLdIndHlN8 (n : Byte) (s : State) : Result := storeMem .hl n 12 s

/-- `LD A,(HL-)` (R217). -/
def execLdAIndHld (s : State) : Result := loadRegMem .a .hlDec 8 s

/-- `LD A,n8` (R202). -/
def execLdAN8 (n : Byte) (s : State) : Result := loadRegImm .a n s

/-- `LD B,B` (R201). -/
def execLdBB (s : State) : Result := loadRegReg .b .b s

/-- `LD B,C` (R201). -/
def execLdBC (s : State) : Result := loadRegReg .b .c s

/-- `LD B,D` (R201). -/
def execLdBD (s : State) : Result := loadRegReg .b .d s

/-- `LD B,E` (R201). -/
def execLdBE (s : State) : Result := loadRegReg .b .e s

/-- `LD B,H` (R201). -/
def execLdBH (s : State) : Result := loadRegReg .b .h s

/-- `LD B,L` (R201). -/
def execLdBL (s : State) : Result := loadRegReg .b .l s

/-- `LD B,(HL)` (R203). -/
def execLdBIndHl (s : State) : Result := loadRegMem .b .hl 8 s

/-- `LD B,A` (R201). -/
def execLdBA (s : State) : Result := loadRegReg .b .a s

/-- `LD C,B` (R201). -/
def execLdCB (s : State) : Result := loadRegReg .c .b s

/-- `LD C,C` (R201). -/
def execLdCC (s : State) : Result := loadRegReg .c .c s

/-- `LD C,D` (R201). -/
def execLdCD (s : State) : Result := loadRegReg .c .d s

/-- `LD C,E` (R201). -/
def execLdCE (s : State) : Result := loadRegReg .c .e s

/-- `LD C,H` (R201). -/
def execLdCH (s : State) : Result := loadRegReg .c .h s

/-- `LD C,L` (R201). -/
def execLdCL (s : State) : Result := loadRegReg .c .l s

/-- `LD C,(HL)` (R203). -/
def execLdCIndHl (s : State) : Result := loadRegMem .c .hl 8 s

/-- `LD C,A` (R201). -/
def execLdCA (s : State) : Result := loadRegReg .c .a s

/-- `LD D,B` (R201). -/
def execLdDB (s : State) : Result := loadRegReg .d .b s

/-- `LD D,C` (R201). -/
def execLdDC (s : State) : Result := loadRegReg .d .c s

/-- `LD D,D` (R201). -/
def execLdDD (s : State) : Result := loadRegReg .d .d s

/-- `LD D,E` (R201). -/
def execLdDE (s : State) : Result := loadRegReg .d .e s

/-- `LD D,H` (R201). -/
def execLdDH (s : State) : Result := loadRegReg .d .h s

/-- `LD D,L` (R201). -/
def execLdDL (s : State) : Result := loadRegReg .d .l s

/-- `LD D,(HL)` (R203). -/
def execLdDIndHl (s : State) : Result := loadRegMem .d .hl 8 s

/-- `LD D,A` (R201). -/
def execLdDA (s : State) : Result := loadRegReg .d .a s

/-- `LD E,B` (R201). -/
def execLdEB (s : State) : Result := loadRegReg .e .b s

/-- `LD E,C` (R201). -/
def execLdEC (s : State) : Result := loadRegReg .e .c s

/-- `LD E,D` (R201). -/
def execLdED (s : State) : Result := loadRegReg .e .d s

/-- `LD E,E` (R201). -/
def execLdEE (s : State) : Result := loadRegReg .e .e s

/-- `LD E,H` (R201). -/
def execLdEH (s : State) : Result := loadRegReg .e .h s

/-- `LD E,L` (R201). -/
def execLdEL (s : State) : Result := loadRegReg .e .l s

/-- `LD E,(HL)` (R203). -/
def execLdEIndHl (s : State) : Result := loadRegMem .e .hl 8 s

/-- `LD E,A` (R201). -/
def execLdEA (s : State) : Result := loadRegReg .e .a s

/-- `LD H,B` (R201). -/
def execLdHB (s : State) : Result := loadRegReg .h .b s

/-- `LD H,C` (R201). -/
def execLdHC (s : State) : Result := loadRegReg .h .c s

/-- `LD H,D` (R201). -/
def execLdHD (s : State) : Result := loadRegReg .h .d s

/-- `LD H,E` (R201). -/
def execLdHE (s : State) : Result := loadRegReg .h .e s

/-- `LD H,H` (R201). -/
def execLdHH (s : State) : Result := loadRegReg .h .h s

/-- `LD H,L` (R201). -/
def execLdHL (s : State) : Result := loadRegReg .h .l s

/-- `LD H,(HL)` (R203). -/
def execLdHIndHl (s : State) : Result := loadRegMem .h .hl 8 s

/-- `LD H,A` (R201). -/
def execLdHA (s : State) : Result := loadRegReg .h .a s

/-- `LD L,B` (R201). -/
def execLdLB (s : State) : Result := loadRegReg .l .b s

/-- `LD L,C` (R201). -/
def execLdLC (s : State) : Result := loadRegReg .l .c s

/-- `LD L,D` (R201). -/
def execLdLD (s : State) : Result := loadRegReg .l .d s

/-- `LD L,E` (R201). -/
def execLdLE (s : State) : Result := loadRegReg .l .e s

/-- `LD L,H` (R201). -/
def execLdLH (s : State) : Result := loadRegReg .l .h s

/-- `LD L,L` (R201). -/
def execLdLL (s : State) : Result := loadRegReg .l .l s

/-- `LD L,(HL)` (R203). -/
def execLdLIndHl (s : State) : Result := loadRegMem .l .hl 8 s

/-- `LD L,A` (R201). -/
def execLdLA (s : State) : Result := loadRegReg .l .a s

/-- `LD (HL),B` (R204). -/
def execLdIndHlB (s : State) : Result := storeMem .hl s.b 8 s

/-- `LD (HL),C` (R204). -/
def execLdIndHlC (s : State) : Result := storeMem .hl s.c 8 s

/-- `LD (HL),D` (R204). -/
def execLdIndHlD (s : State) : Result := storeMem .hl s.d 8 s

/-- `LD (HL),E` (R204). -/
def execLdIndHlE (s : State) : Result := storeMem .hl s.e 8 s

/-- `LD (HL),H` (R204). -/
def execLdIndHlH (s : State) : Result := storeMem .hl s.h 8 s

/-- `LD (HL),L` (R204). -/
def execLdIndHlL (s : State) : Result := storeMem .hl s.l 8 s

/-- `LD (HL),A` (R204). -/
def execLdIndHlA (s : State) : Result := storeMem .hl s.a 8 s

/-- `LD A,B` (R201). -/
def execLdAB (s : State) : Result := loadRegReg .a .b s

/-- `LD A,C` (R201). -/
def execLdAC (s : State) : Result := loadRegReg .a .c s

/-- `LD A,D` (R201). -/
def execLdAD (s : State) : Result := loadRegReg .a .d s

/-- `LD A,E` (R201). -/
def execLdAE (s : State) : Result := loadRegReg .a .e s

/-- `LD A,H` (R201). -/
def execLdAH (s : State) : Result := loadRegReg .a .h s

/-- `LD A,L` (R201). -/
def execLdAL (s : State) : Result := loadRegReg .a .l s

/-- `LD A,(HL)` (R203). -/
def execLdAIndHl (s : State) : Result := loadRegMem .a .hl 8 s

/-- `LD A,A` (R201). -/
def execLdAA (s : State) : Result := loadRegReg .a .a s

/-- `LDH (n8),A` (R213). -/
def execLdhIndN8A (n : Byte) (s : State) : Result := storeMem (.high n) s.a 12 s

/-- `LD (C),A` (R215). -/
def execLdIndCA (s : State) : Result := storeMem .highC s.a 8 s

/-- `LD (n16),A` (R211). -/
def execLdIndN16A (n : Word) (s : State) : Result := storeMem (.absolute n) s.a 16 s

/-- `LDH A,(n8)` (R212). -/
def execLdhAIndN8 (n : Byte) (s : State) : Result := loadRegMem .a (.high n) 12 s

/-- `LD A,(C)` (R214). -/
def execLdAIndC (s : State) : Result := loadRegMem .a .highC 8 s

/-- `LD A,(n16)` (R210). -/
def execLdAIndN16 (n : Word) (s : State) : Result := loadRegMem .a (.absolute n) 16 s

end Sys2Proof.Machine
end

