-- ==== Sys2Proof/Machine/Rotate.lean ====
section
/-! DEFINITION. The rotates and shifts of the reference table (45_rotate_shift_bit.md rules R300 to R320): the shared operations,
then one meaning per row of the opcode table. -/

namespace Sys2Proof.Machine

/-- The accumulator rotates (R300 to R303): the result and carry of the prefixed rotate of the same name, Z cleared. -/
def rotateAcc (op : ShiftOp) (s : State) : Result :=
  let x := shift8 op s.a s.flags.c
  .next ((State.setFlags { s with a := x.1 } (accRotateFlags x.2)).done 4)

/-- A prefixed rotate or shift of a register (R305 to R319, odd rules). -/
def shiftReg (op : ShiftOp) (r : Reg8) (s : State) : Result :=
  let x := shift8 op (s.reg r) s.flags.c
  .next (((s.setReg r x.1).setFlags (shiftFlags x.1 x.2)).done 8)

/-- A prefixed rotate or shift of memory at HL: one read, then one write (R306 to R320, even rules; R304). -/
def shiftInd (op : ShiftOp) (s : State) : Result :=
  let a := s.pair .hl
  let x := shift8 op (s.peek a) s.flags.c
  .next ((((s.noteRead a).memWrite a x.1).setFlags (shiftFlags x.1 x.2)).done 16)

/-! ### One meaning per row -/

/-- `RLCA` (R300). -/
def execRlca (s : State) : Result := rotateAcc .rlc s

/-- `RRCA` (R301). -/
def execRrca (s : State) : Result := rotateAcc .rrc s

/-- `RLA` (R302). -/
def execRla (s : State) : Result := rotateAcc .rl s

/-- `RRA` (R303). -/
def execRra (s : State) : Result := rotateAcc .rr s

/-- `RLC B` (R305). -/
def execRlcB (s : State) : Result := shiftReg .rlc .b s

/-- `RLC C` (R305). -/
def execRlcC (s : State) : Result := shiftReg .rlc .c s

/-- `RLC D` (R305). -/
def execRlcD (s : State) : Result := shiftReg .rlc .d s

/-- `RLC E` (R305). -/
def execRlcE (s : State) : Result := shiftReg .rlc .e s

/-- `RLC H` (R305). -/
def execRlcH (s : State) : Result := shiftReg .rlc .h s

/-- `RLC L` (R305). -/
def execRlcL (s : State) : Result := shiftReg .rlc .l s

/-- `RLC (HL)` (R306). -/
def execRlcIndHl (s : State) : Result := shiftInd .rlc s

/-- `RLC A` (R305). -/
def execRlcA (s : State) : Result := shiftReg .rlc .a s

/-- `RRC B` (R307). -/
def execRrcB (s : State) : Result := shiftReg .rrc .b s

/-- `RRC C` (R307). -/
def execRrcC (s : State) : Result := shiftReg .rrc .c s

/-- `RRC D` (R307). -/
def execRrcD (s : State) : Result := shiftReg .rrc .d s

/-- `RRC E` (R307). -/
def execRrcE (s : State) : Result := shiftReg .rrc .e s

/-- `RRC H` (R307). -/
def execRrcH (s : State) : Result := shiftReg .rrc .h s

/-- `RRC L` (R307). -/
def execRrcL (s : State) : Result := shiftReg .rrc .l s

/-- `RRC (HL)` (R308). -/
def execRrcIndHl (s : State) : Result := shiftInd .rrc s

/-- `RRC A` (R307). -/
def execRrcA (s : State) : Result := shiftReg .rrc .a s

/-- `RL B` (R309). -/
def execRlB (s : State) : Result := shiftReg .rl .b s

/-- `RL C` (R309). -/
def execRlC (s : State) : Result := shiftReg .rl .c s

/-- `RL D` (R309). -/
def execRlD (s : State) : Result := shiftReg .rl .d s

/-- `RL E` (R309). -/
def execRlE (s : State) : Result := shiftReg .rl .e s

/-- `RL H` (R309). -/
def execRlH (s : State) : Result := shiftReg .rl .h s

/-- `RL L` (R309). -/
def execRlL (s : State) : Result := shiftReg .rl .l s

/-- `RL (HL)` (R310). -/
def execRlIndHl (s : State) : Result := shiftInd .rl s

/-- `RL A` (R309). -/
def execRlA (s : State) : Result := shiftReg .rl .a s

/-- `RR B` (R311). -/
def execRrB (s : State) : Result := shiftReg .rr .b s

/-- `RR C` (R311). -/
def execRrC (s : State) : Result := shiftReg .rr .c s

/-- `RR D` (R311). -/
def execRrD (s : State) : Result := shiftReg .rr .d s

/-- `RR E` (R311). -/
def execRrE (s : State) : Result := shiftReg .rr .e s

/-- `RR H` (R311). -/
def execRrH (s : State) : Result := shiftReg .rr .h s

/-- `RR L` (R311). -/
def execRrL (s : State) : Result := shiftReg .rr .l s

/-- `RR (HL)` (R312). -/
def execRrIndHl (s : State) : Result := shiftInd .rr s

/-- `RR A` (R311). -/
def execRrA (s : State) : Result := shiftReg .rr .a s

/-- `SLA B` (R313). -/
def execSlaB (s : State) : Result := shiftReg .sla .b s

/-- `SLA C` (R313). -/
def execSlaC (s : State) : Result := shiftReg .sla .c s

/-- `SLA D` (R313). -/
def execSlaD (s : State) : Result := shiftReg .sla .d s

/-- `SLA E` (R313). -/
def execSlaE (s : State) : Result := shiftReg .sla .e s

/-- `SLA H` (R313). -/
def execSlaH (s : State) : Result := shiftReg .sla .h s

/-- `SLA L` (R313). -/
def execSlaL (s : State) : Result := shiftReg .sla .l s

/-- `SLA (HL)` (R314). -/
def execSlaIndHl (s : State) : Result := shiftInd .sla s

/-- `SLA A` (R313). -/
def execSlaA (s : State) : Result := shiftReg .sla .a s

/-- `SRA B` (R315). -/
def execSraB (s : State) : Result := shiftReg .sra .b s

/-- `SRA C` (R315). -/
def execSraC (s : State) : Result := shiftReg .sra .c s

/-- `SRA D` (R315). -/
def execSraD (s : State) : Result := shiftReg .sra .d s

/-- `SRA E` (R315). -/
def execSraE (s : State) : Result := shiftReg .sra .e s

/-- `SRA H` (R315). -/
def execSraH (s : State) : Result := shiftReg .sra .h s

/-- `SRA L` (R315). -/
def execSraL (s : State) : Result := shiftReg .sra .l s

/-- `SRA (HL)` (R316). -/
def execSraIndHl (s : State) : Result := shiftInd .sra s

/-- `SRA A` (R315). -/
def execSraA (s : State) : Result := shiftReg .sra .a s

/-- `SWAP B` (R317). -/
def execSwapB (s : State) : Result := shiftReg .swap .b s

/-- `SWAP C` (R317). -/
def execSwapC (s : State) : Result := shiftReg .swap .c s

/-- `SWAP D` (R317). -/
def execSwapD (s : State) : Result := shiftReg .swap .d s

/-- `SWAP E` (R317). -/
def execSwapE (s : State) : Result := shiftReg .swap .e s

/-- `SWAP H` (R317). -/
def execSwapH (s : State) : Result := shiftReg .swap .h s

/-- `SWAP L` (R317). -/
def execSwapL (s : State) : Result := shiftReg .swap .l s

/-- `SWAP (HL)` (R318). -/
def execSwapIndHl (s : State) : Result := shiftInd .swap s

/-- `SWAP A` (R317). -/
def execSwapA (s : State) : Result := shiftReg .swap .a s

/-- `SRL B` (R319). -/
def execSrlB (s : State) : Result := shiftReg .srl .b s

/-- `SRL C` (R319). -/
def execSrlC (s : State) : Result := shiftReg .srl .c s

/-- `SRL D` (R319). -/
def execSrlD (s : State) : Result := shiftReg .srl .d s

/-- `SRL E` (R319). -/
def execSrlE (s : State) : Result := shiftReg .srl .e s

/-- `SRL H` (R319). -/
def execSrlH (s : State) : Result := shiftReg .srl .h s

/-- `SRL L` (R319). -/
def execSrlL (s : State) : Result := shiftReg .srl .l s

/-- `SRL (HL)` (R320). -/
def execSrlIndHl (s : State) : Result := shiftInd .srl s

/-- `SRL A` (R319). -/
def execSrlA (s : State) : Result := shiftReg .srl .a s

end Sys2Proof.Machine
end

