-- ==== Sys2Proof/Machine/System.lean ====
section
/-! DEFINITION. The system instructions of the reference table (47_system.md rules R350 to R356): the shared operation, then one
meaning per row of the opcode table. -/

namespace Sys2Proof.Machine

/-- The effect of a base entry that is never dispatched: it raises `Fault(IllegalOpcode)` with the instruction's address and
byte (R355, R356, and R114 for the place of the fault). Decode raises the same fault before such an entry could become `next`.
DESIGN CHOICE (log 10), safe: R355 allows this effect for the prefix entry, and R356 gives the illegal rows none. -/
def raiseIllegal (opcode : Byte) (len : Nat) (s : State) : Result :=
  .next (s.raise (.illegalOpcode (s.currentAddr len) opcode false))

/-! ### One meaning per row -/

/-- `NOP` (R350). -/
def execNop (s : State) : Result := .next (s.done 4)

/-- `STOP` (R352). -/
def execStop (_n : Byte) (s : State) : Result := .next (s.raise (.unmodelled (s.currentAddr 2) 0x10))

/-- `HALT` (R351). -/
def execHalt (s : State) : Result := .next (State.done { s with halted := true } 4)

/-- `PREFIX CB` (R355). -/
def execPrefixCb (s : State) : Result := raiseIllegal 0xCB 2 s

/-- `ILLEGAL_D3` (R356). -/
def execIllegalD3 (s : State) : Result := raiseIllegal 0xD3 0 s

/-- `ILLEGAL_DB` (R356). -/
def execIllegalDB (s : State) : Result := raiseIllegal 0xDB 0 s

/-- `ILLEGAL_DD` (R356). -/
def execIllegalDD (s : State) : Result := raiseIllegal 0xDD 0 s

/-- `ILLEGAL_E3` (R356). -/
def execIllegalE3 (s : State) : Result := raiseIllegal 0xE3 0 s

/-- `ILLEGAL_E4` (R356). -/
def execIllegalE4 (s : State) : Result := raiseIllegal 0xE4 0 s

/-- `ILLEGAL_EB` (R356). -/
def execIllegalEB (s : State) : Result := raiseIllegal 0xEB 0 s

/-- `ILLEGAL_EC` (R356). -/
def execIllegalEC (s : State) : Result := raiseIllegal 0xEC 0 s

/-- `ILLEGAL_ED` (R356). -/
def execIllegalED (s : State) : Result := raiseIllegal 0xED 0 s

/-- `DI` (R353). -/
def execDi (s : State) : Result := .next (State.done { s with ime := false } 4)

/-- `ILLEGAL_F4` (R356). -/
def execIllegalF4 (s : State) : Result := raiseIllegal 0xF4 0 s

/-- `EI` (R354). -/
def execEi (s : State) : Result := .next (State.done { s with ime := true } 4)

/-- `ILLEGAL_FC` (R356). -/
def execIllegalFC (s : State) : Result := raiseIllegal 0xFC 0 s

/-- `ILLEGAL_FD` (R356). -/
def execIllegalFD (s : State) : Result := raiseIllegal 0xFD 0 s

end Sys2Proof.Machine
end

