-- ==== Sys2Proof/Machine/Tables.lean ====
section
/-! DEFINITION. The instruction tables as an argument of the engine (00_scope.md rules R2, R6; 30_encoding.md rules R82, R83), and the
reference value of it that the spec supplies: the SM83 table (log 9). -/

namespace Sys2Proof.Machine

/-- An InstructionDefinition (R82). `len` 0, or above 3, marks an illegal entry (R87). The effect is given the ParsedInstruction it
runs for and the state, MMU included (R114); `none` is an entry with no valid effect, which the spec knows in the PrefixTable (R87, R114), and
the model in the BaseTable too (log 15). -/
structure InstructionDefinition where
  len     : Nat
  nominal : Nat
  effect  : Option (ParsedInstruction → State → Result)

/-- `InstrTables` (R6, R83): two tables, each with one entry for every byte. -/
structure InstrTables where
  base     : Byte → InstructionDefinition
  prefixed : Byte → InstructionDefinition

/-- The entry a reference selects. -/
def InstrTables.entry (T : InstrTables) (r : EntryRef) : InstructionDefinition :=
  if r.prefixed then T.prefixed r.index else T.base r.index

/-- The instruction a record stands for in the reference table: its entry, with the operands that the effect takes from the record (R95,
R114). -/
def ParsedInstruction.instr (p : ParsedInstruction) : Instr :=
  if p.defn.prefixed then prefixEntry p.defn.index else baseEntry p.defn.index p.lo p.hi

/-- The reference value of `InstrTables` (R2): the lengths and cycles of the opcode maps, and the meanings of `exec`. -/
def referenceTables : InstrTables :=
  { base     := fun op => { len := declaredLen op, nominal := entryAt baseNominal op 0, effect := some fun p s => exec p.instr s },
    prefixed := fun op => { len := 2, nominal := entryAt prefixNominal op 0, effect := some fun p s => exec p.instr s } }

end Sys2Proof.Machine
end

