-- ==== Sys2Proof/Machine/Fetch.lean ====
section
/-! DEFINITION. Fetching and decoding one instruction through the MMU, for any instruction tables (30_encoding.md rules R84 to R88), the
lookahead slot (40_pipeline.md rules R115, R117) and priming it (rule R127). -/

namespace Sys2Proof.Machine

/-- The three bytes that reads from `a` upward answer, addresses modulo 2^16 (R54, R80): every byte an instruction at `a` can have. -/
def State.bytesAt (s : State) (a : Word) : List Byte :=
  [s.peek a, (s.noteRead a).peek (a + 1), ((s.noteRead a).noteRead (a + 1)).peek (a + 2)]

/-- `decode(a)` (R84): the ParsedInstruction, or the fault an illegal base byte raises (R87), and the state after its reads (R85). -/
def State.fetchAt (T : InstrTables) (s : State) (a : Word) : Except Fault ParsedInstruction × State :=
  let b0 := s.peek a
  let s1 := s.noteRead a
  if b0 = Config.prefixByte then
    let b1 := s1.peek (a + 1)
    (.ok { addr := a, prefixed := true, opcode := b1, lo := 0, hi := 0, imm16 := 0, len := 2,
           defn := { prefixed := true, index := b1 } },
     s1.noteRead (a + 1))
  else
    let len := (T.base b0).len
    let record := fun (lo hi : Byte) (imm16 : Word) =>
      ({ addr := a, prefixed := false, opcode := b0, lo := lo, hi := hi, imm16 := imm16, len := len,
         defn := { prefixed := false, index := b0 } } : ParsedInstruction)
    if len = 0 ∨ 3 < len then (.error (.illegalOpcode a b0 false), s1)
    else if len = 1 then (.ok (record 0 0 0), s1)
    else
      let lo := s1.peek (a + 1)
      let s2 := s1.noteRead (a + 1)
      if len = 2 then (.ok (record lo 0 0), s2)
      else
        let hi := s2.peek (a + 2)
        (.ok (record lo hi (joinBytes hi lo)), s2.noteRead (a + 2))

/-- What `decode(a)` answers. -/
def State.decodeAt (T : InstrTables) (s : State) (a : Word) : Except Fault ParsedInstruction := (s.fetchAt T a).1

/-- The state after the reads of `decode(a)`. -/
def State.afterDecode (T : InstrTables) (s : State) (a : Word) : State := (s.fetchAt T a).2

/-- The lookahead slot filled (R31). -/
def State.withNext (s : State) (p : ParsedInstruction) : State := { s with next := some p }

/-- `next <- decode(pc)` (R115, R117, R127), or the fault that decode raises. -/
def State.fetchNext (T : InstrTables) (s : State) : State :=
  match s.decodeAt T s.pc with
  | .ok p    => (s.afterDecode T s.pc).withNext p
  | .error x => (s.afterDecode T s.pc).raise x

/-- `prime()` (R127, R453). DESIGN CHOICE (log 7): on a faulted core it changes nothing, as every later call (R416). -/
def State.prime (T : InstrTables) (s : State) : State :=
  if s.fault.isNone then State.fetchNext T { s with trace := [], result := none } else s

end Sys2Proof.Machine
end

