-- ==== Sys2Proof/Machine/Driver.lean ====
section
/-! DEFINITION. The host's side of the interface (40_pipeline.md rules R110, R125; 70_reset_and_hazards.md rule R455): what the
external driver may do between two `cycle()` calls, as functions of the state. The core's step never calls them (log 13). -/

namespace Sys2Proof.Machine

/-- `setRunMode(m)` (R125). -/
def State.setRunMode (s : State) (m : RunMode) : State := { s with runMode := m }

/-- A device or DMA writes a byte of memory (R411, R455). It is no access of the core, so it is no event of `trace`. -/
def State.hostWrite (s : State) (a : Word) (v : Byte) : State := { s with mmu := s.mmu.afterDeviceWrite a v }

/-- A device raises a source's pending bit (R411). -/
def State.requestInterrupt (s : State) (k : Source) : State := { s with mmu := s.mmu.afterRequest k }

/-- The host advances the devices behind the MMU by `n` cycles (R420, R455). -/
def State.advanceDevices (s : State) (n : Nat) : State := { s with mmu := s.mmu.afterAdvance n }

/-- What the host can do between calls (R455). It has no move that writes a register, `ime`, `halted`, `current`, `next` or `fault`. -/
inductive HostAction where
  | prime
  | setRunMode (m : RunMode)
  | writeByte (a : Word) (v : Byte)
  | requestInterrupt (k : Source)
  | advanceDevices (cycles : Nat)
deriving DecidableEq, Repr

/-- One host step (R455). -/
def hostAct (T : InstrTables) (x : HostAction) (s : State) : State :=
  match x with
  | .prime              => s.prime T
  | .setRunMode m       => s.setRunMode m
  | .writeByte a v      => s.hostWrite a v
  | .requestInterrupt k => s.requestInterrupt k
  | .advanceDevices n   => s.advanceDevices n

/-- A device step: some bytes written, as one atomic host step (R62, R455). -/
def deviceStep (writes : List (Word × Byte)) (s : State) : State :=
  writes.foldl (fun t w => t.hostWrite w.1 w.2) s

/-- The cycles by which the host advances its devices after a call: the count the call returned, or `HALT_TICK` when it returned 0,
which only a halted call does (R119, R455, R461). A faulted call has no count (R352, R415). -/
def deviceCycles : CycleResult → Option Nat
  | .cycles 0       => some Config.haltTick
  | .cycles (n + 1) => some (n + 1)
  | .faulted _      => none

/-- The register file as the debug interface shows it. -/
structure RegisterView where
  af : Word
  bc : Word
  de : Word
  hl : Word
  sp : Word
  pc : Word
deriving DecidableEq, Repr

/-- `readRegisters()` (R39, R110). -/
def State.readRegisters (s : State) : RegisterView :=
  { af := s.stackPair .af, bc := s.pair .bc, de := s.pair .de, hl := s.pair .hl, sp := s.sp, pc := s.pc }

/-- `readCurrent()` (R39, R110). -/
def State.readCurrent (s : State) : Option ParsedInstruction := s.current

/-- `readNext()` (R39, R110). -/
def State.readNext (s : State) : Option ParsedInstruction := s.next

end Sys2Proof.Machine
end

