-- ==== Sys2Proof/Machine/Interrupts.lean ====
section
/-! DEFINITION. The priority interrupt controller (60_exceptions.md rules R400 to R409). -/

namespace Sys2Proof.Machine

/-- A source is firable when its IE bit and its IF bit are both 1 (R403). -/
def State.firable (s : State) (k : Source) : Bool :=
  s.bitRead Config.ieAddr (Config.sourceMask k) && s.bitRead Config.ifAddr (Config.sourceMask k)

/-- The scan of R404 over the sources from the highest priority: the first firable source, and the state after the scan's reads. The
IE bit is read first, the IF bit only if the IE bit is 1, and nothing is read after the selected source. -/
def scanSources : List Source → State → Option Source × State
  | [], s => (none, s)
  | k :: rest, s =>
    let s1 := s.noteRead Config.ieAddr
    if s.bitRead Config.ieAddr (Config.sourceMask k) then
      let s2 := s1.noteRead Config.ifAddr
      if s1.bitRead Config.ifAddr (Config.sourceMask k) then (some k, s2) else scanSources rest s2
    else scanSources rest s1

/-- A selected source wakes the core, whatever `ime` is (R405). -/
def State.wake (s : State) : State := { s with halted := false }

/-- `handleInterrupts()` (R404): whether a source was serviced, and the state after. A selected source clears `halted` whatever `ime`
is (R405); with `ime` false nothing is serviced (R406); otherwise the source is (R407). -/
def handleInterrupts (s : State) : Bool × State :=
  match scanSources Source.inPriorityOrder s with
  | (none, s1)   => (false, s1)
  | (some k, s1) =>
    if s1.ime then (true, s1.wake.serviceInterrupt k) else (false, s1.wake)

end Sys2Proof.Machine
end

