-- ==== Sys2Proof/Machine/Pipeline.lean ====
section
/-! DEFINITION. One `cycle()` call, for any instruction tables (00_scope.md rule R2; 40_pipeline.md rules R111 to R120). A call that raises a
fault answers the state it leaves, with the fault recorded and returned in it; a call on a faulted core performs nothing and stops with
that fault (log 4). -/

namespace Sys2Proof.Machine

/-- The start of a call: no access yet, and no cycle counted (R111). -/
def State.beginCall (s : State) : State := { s with trace := [], result := some (.cycles 0) }

/-- Promotion, then the `pc` advance by the declared length (R112, R113). -/
def State.promote (s : State) (p : ParsedInstruction) : State :=
  { s with current := some p, pc := s.pc + BitVec.ofNat 16 p.len }

/-- SingleStep goes to Paused at the end of the call; every other mode stays (R118). -/
def State.demote (s : State) : State :=
  { s with runMode := if s.runMode = .singleStep then .paused else s.runMode }

/-- The interrupt step, the re-decode after a service, and the run-mode demotion (R116 to R118). -/
def State.finishCall (T : InstrTables) (s : State) : State :=
  match handleInterrupts s with
  | (true, s1)  => (s1.fetchNext T).andThen State.demote
  | (false, s1) => s1.demote

/-- What follows the effect: the lookahead decode, then the end of the call, each only if no fault has ended it (R111, R115, R417). -/
def State.afterEffect (T : InstrTables) (s : State) : State := (s.andThen (State.fetchNext T)).andThen (State.finishCall T)

/-- The effect of the promoted instruction (R114). A PrefixTable entry with no valid effect raises `IllegalOpcode` here (R87, R114, R415). A
BaseTable entry of legal length with no valid effect, of which the spec says nothing, raises it too: DESIGN CHOICE (log 15). -/
def runEffect (T : InstrTables) (p : ParsedInstruction) (s : State) : Result :=
  match (T.entry p.defn).effect with
  | some effect => effect p s
  | none        => .next (s.raise (.illegalOpcode p.addr p.opcode p.prefixed))

/-- An unfaulted, primed core's call: the instruction in `next`, or none when halted (R112, R114, R119). -/
def State.executeNext (T : InstrTables) (s : State) (p : ParsedInstruction) : Result :=
  if s.halted then .next (s.beginCall.finishCall T)
  else
    match runEffect T p (s.beginCall.promote p) with
    | .next s1   => .next (s1.afterEffect T)
    | .fault x   => .fault x
    | .refused x => .refused x

/-- `cycle()` (R111, R120). -/
def cycle (T : InstrTables) (s : State) : Result :=
  match s.fault with
  | some x => .fault x
  | none =>
    match s.next with
    | none   => .next (s.beginCall.raise (.notPrimed s.pc))
    | some p => s.executeNext T p

end Sys2Proof.Machine
end

