-- ==== Sys2Proof/Machine/Step.lean ====
section
/-! DEFINITION. The machine's step, which is one `cycle()` call with the reference tables (00_scope.md rule R2; 40_pipeline.md rule R121),
and the placing of a word of the opcode table where the next step finds it. -/

namespace Sys2Proof.Machine

/-- One `cycle()` call is one transition (R121). The engine takes the tables as an argument; the machine has the reference ones (log 9). -/
def step (s : State) : Host.Outcome State Fault Refusal := cycle referenceTables s

/-- The bytes of `bs` stored from `a` upward, addresses modulo 2^16. -/
def State.placeBytes (s : State) (a : Word) : List Byte → State
  | []      => s
  | v :: vs => (s.hostWrite a v).placeBytes (a + 1) vs

/-- The word's bytes at `pc`, on a core that is neither halted nor faulted, and the lookahead primed from them (R127, R453): the host's
load of a program (log 5). -/
def State.withFetchWord (s : State) (nbits w : Nat) : State :=
  State.prime referenceTables { s.placeBytes s.pc (tableBytes nbits w) with halted := false, fault := none }

end Sys2Proof.Machine
end

