-- ==== Sys2Proof/Machine/Run.lean ====
section
/-! DEFINITION. Runs and how they end (70_reset_and_hazards.md rule R464, decision D37): a run is the `cycle()` calls and the host steps from a
primed launch, in one total order (20_memory.md rule R62); it ends normally, goes wrong, or hangs, and what is observed of it is the state at
its end (log 16). -/

namespace Sys2Proof.Machine

/-! ### The states in which a run can end -/

/-- The enabled and pending sources, `IE & IF & 0x1F`, as the MMU would return them (R464). -/
def State.pendingEnabled (s : State) : Byte := s.peek Config.ieAddr &&& s.peek Config.ifAddr &&& 0x1F

/-- The conditions of a normal end (R464): not faulted, halted, and no source firable. -/
def State.endedNormally (s : State) : Bool := s.fault.isNone && s.halted && s.pendingEnabled == 0

/-- The condition of a run that has gone wrong (R416, R464). -/
def State.goneWrong (s : State) : Bool := s.fault.isSome

/-! ### Runs -/

/-- Where every run starts: the launch state, primed (R450, R453, R464). -/
def State.launchPrimed (T : InstrTables) (r : InitRegs) (m : Mmu) : State := (State.launch r m).prime T

/-- One event of a run: a `cycle()` call, or a host step between two calls (R62, R464). -/
inductive RunMove where
  | call
  | host (x : HostAction)
deriving DecidableEq, Repr

/-- The state after one event of a run. A call that stops leaves the state as it was: with the reference tables only a call on a faulted core
stops, and that changes nothing (R120). -/
def playMove (T : InstrTables) (s : State) : RunMove → State
  | .host x => hostAct T x s
  | .call   =>
    match cycle T s with
    | .next t    => t
    | .fault _   => s
    | .refused _ => s

/-- The state after some events. -/
def playMoves (T : InstrTables) (s : State) : List RunMove → State
  | []      => s
  | x :: xs => playMoves T (playMove T s x) xs

/-- The two ways a run ends (R464). -/
inductive RunEnd where
  | normal
  | wrong
deriving DecidableEq, Repr

/-- The observation of a run (R464): the register file with `pc` and `sp`, `ime`, and memory, which is the MMU's (R36). -/
structure Observation where
  registers : RegisterView
  ime       : Bool
  memory    : Mmu
deriving DecidableEq, Repr

/-- What is observed of a state. -/
def State.observe (s : State) : Observation := { registers := s.readRegisters, ime := s.ime, memory := s.mmu }

/-- How the run from `s` with these events ends, and what is observed at its end; none while it has not ended (R464). It goes wrong at the
first state with a fault, and ends normally at the first state that a call leaves with the conditions of a normal end; the events after its
end play no part. -/
def runOutcome (T : InstrTables) (s : State) : List RunMove → Option (RunEnd × Observation)
  | []      => if s.goneWrong then some (.wrong, s.observe) else none
  | x :: xs =>
    if s.goneWrong then some (.wrong, s.observe)
    else
      let t := playMove T s x
      if x = .call ∧ t.endedNormally = true then some (.normal, t.observe) else runOutcome T t xs

/-- The first `n` events of an unending sequence of them. -/
def firstMoves (events : Nat → RunMove) (n : Nat) : List RunMove := (List.range n).map events

/-- The run from `s` with this unending sequence of events is a hang: it never reaches an end (R459, R464). -/
def RunHangs (T : InstrTables) (s : State) (events : Nat → RunMove) : Prop := ∀ n, runOutcome T s (firstMoves events n) = none

end Sys2Proof.Machine
end

