-- ==== Sys2Proof/Safety.lean ====
section
/-! DEFINITION. What claims say about a run: the invariant of the machine (10_state.md rules R24, R30, R31), the frame and the
completion of an effect (30_encoding.md rule R82, 40_pipeline.md rule R114). How a run ends is in Machine/Run.lean. -/

namespace Sys2Proof.Machine

/-- The opcode byte that selects an instruction's definition (R30). -/
def opcodeOf (i : Instr) : Byte :=
  match encode i with
  | []             => 0
  | [op]           => op
  | op :: op2 :: _ => if op = Config.prefixByte then op2 else op

/-- The immediate bytes of an instruction (R30, R86): none for a prefixed one. -/
def immediatesOf (i : Instr) : List Byte :=
  match encode i with
  | []         => []
  | op :: rest => if op = Config.prefixByte then [] else rest

/-- The record R30 and R84 give an instruction at an address. -/
def recordOf (a : Word) (i : Instr) : ParsedInstruction :=
  { addr := a, prefixed := (encode i).head? == some Config.prefixByte, opcode := opcodeOf i,
    lo := (immediatesOf i).getD 0 0, hi := (immediatesOf i).getD 1 0,
    imm16 := joinBytes ((immediatesOf i).getD 1 0) (if (immediatesOf i).length = 2 then (immediatesOf i).getD 0 0 else 0),
    len := i.length, defn := { prefixed := (encode i).head? == some Config.prefixByte, index := opcodeOf i } }

/-- A slot holds a record that decode can produce: the record of a well-formed instruction (R30, R84, R87, R88). -/
def ParsedInstruction.wellFormed (p : ParsedInstruction) : Prop := ∃ i, WellFormed i = true ∧ p = recordOf p.addr i

/-- The invariant of the machine. -/
structure State.Inv (s : State) : Prop where
  /-- The simulator's bytes are in their canonical form (log 3). -/
  memory    : s.mmu.wf = true
  /-- Bits 3..0 of F are 0 (R24). -/
  lowNibble : s.f &&& 0x0F = 0
  /-- `current` holds none or a record of decode (R31). -/
  current   : ∀ p, s.current = some p → p.wellFormed
  /-- `next` holds none or a record of decode (R31). -/
  next      : ∀ p, s.next = some p → p.wellFormed
  /-- The lookahead invariant: on a core that is not faulted, `next.addr = pc` (R31). -/
  lookahead : s.fault = none → ∀ p, s.next = some p → p.addr = s.pc

/-- The lookahead is fresh: `next` of an unfaulted core is what the bytes at `pc` decode to now (R31, R65). Said of the simulator MMU, whose bytes
can be read again with the same answers (R60). -/
def State.LookaheadIsFresh (T : InstrTables) (s : State) : Prop :=
  s.mmu.isSimulator = true → s.fault = none → ∀ p, s.next = some p → s.decodeAt T s.pc = .ok p

/-! ### What an effect writes and what it leaves -/

/-- What an effect may write. Whatever is not named here it leaves as it was. -/
structure Writes where
  /-- General registers and A (R21). -/
  regs   : List Reg8 := []
  /-- F, all of it (R23). -/
  f      : Bool := false
  sp     : Bool := false
  pc     : Bool := false
  ime    : Bool := false
  halted : Bool := false
  /-- The addresses stored to. -/
  stores : List Word := []
deriving DecidableEq, Repr

/-- The MMU was given exactly these accesses, in this order (R53): they are the events, and the MMU is what they make of it, whatever MMU it
is (R60). -/
def Accesses (s t : State) (es : List BusEvent) : Prop := t.trace = s.trace ++ es ∧ t.mmu = s.mmu.afterAccesses es

/-- With the simulator MMU, a byte reads as stored (R60). Another MMU need not read back what was written. -/
def Stored (t : State) (a : Word) (v : Byte) : Prop := t.mmu.isSimulator = true → t.peek a = v

/-- The frame: every register, every bit of F, `sp`, `pc`, `ime` and `halted` that `w` does not name is as before, `runMode`, `current`,
`next` and `fault` are unchanged (no effect writes those, R82), and with the simulator MMU every byte of memory outside `w.stores` reads
as before. -/
def KeepsAllBut (w : Writes) (s t : State) : Prop :=
  (∀ r, r ∉ w.regs → t.reg r = s.reg r) ∧
  (w.f = false → t.f = s.f) ∧ (w.sp = false → t.sp = s.sp) ∧ (w.pc = false → t.pc = s.pc) ∧
  (w.ime = false → t.ime = s.ime) ∧ (w.halted = false → t.halted = s.halted) ∧
  (s.mmu.isSimulator = true → ∀ a, a ∉ w.stores → t.peek a = s.peek a) ∧
  t.runMode = s.runMode ∧ t.current = s.current ∧ t.next = s.next ∧ t.fault = s.fault

/-- The instruction completes: `exec i s` answers a next state `t`, which keeps all but `w`, gave the MMU exactly the accesses `es`
(R53), returns `n` cycles (R114), and satisfies `post`. -/
def Runs (i : Instr) (s : State) (w : Writes) (es : List BusEvent) (n : Nat) (post : State → Prop) : Prop :=
  ∃ t, exec i s = .next t ∧ KeepsAllBut w s t ∧ Accesses s t es ∧ t.result = some (.cycles n) ∧ post t

/-- The instruction's encoding is these bytes: the encoder writes them, the decoder reads them back whatever follows, and its length is
their number (R80). -/
def EncodedAs (i : Instr) (bytes : List Byte) : Prop :=
  encode i = bytes ∧ (∀ rest, decode (bytes ++ rest) = .ok (i, rest)) ∧ i.length = bytes.length

/-- The condition of a conditional instruction (R92); none for the other rows. -/
def conditionOf : Instr → Option Cond
  | .jrNzE8 _ => some .nz
  | .jrZE8 _ => some .z
  | .jrNcE8 _ => some .nc
  | .jrCE8 _ => some .c
  | .jpNzN16 _ => some .nz
  | .jpZN16 _ => some .z
  | .jpNcN16 _ => some .nc
  | .jpCN16 _ => some .c
  | .callNzN16 _ => some .nz
  | .callZN16 _ => some .z
  | .callNcN16 _ => some .nc
  | .callCN16 _ => some .c
  | .retNz => some .nz
  | .retZ => some .z
  | .retNc => some .nc
  | .retC => some .c
  | _ => none

/-- The cycles the opcode table gives an instruction in a state (R462): the taken cost when its condition holds, else the nominal one. -/
def tableCycles (i : Instr) (s : State) : Nat :=
  match conditionOf i with
  | none    => i.nominalCycles
  | some cc => if s.cond cc then i.takenCycles else i.nominalCycles

/-! ### Named shapes of claims -/

/-- The registers a pair of R91 is made of; none for SP. -/
def halvesOf : Pair → List Reg8
  | .bc => [.b, .c]
  | .de => [.d, .e]
  | .hl => [.h, .l]
  | .sp => []

/-- The encodings and forms of one operation of R93: A, F, the operand's access and the cycles of each form. `post v` is what A and F become
for the operand value `v`. -/
def AluForms (op : AluOp) (s : State) (regs : List Reg8) (post : Byte → Byte × Flags) : Prop :=
  let runs := fun (i : Instr) (v : Byte) (es : List BusEvent) (n : Nat) =>
    Runs i s { regs := regs, f := true } es n (fun t => t.a = (post v).1 ∧ t.f = (post v).2.toByte)
  (∀ r, EncodedAs (.aluReg op r) [0b10#2 ++ op.code ++ r.code] ∧ runs (.aluReg op r) (s.reg r) [] 4) ∧
  (EncodedAs (.aluInd op) [0b10#2 ++ op.code ++ 0b110#3] ∧
    runs (.aluInd op) (s.peek (s.pair .hl)) [.read (s.pair .hl) (s.peek (s.pair .hl))] 8) ∧
  (∀ n, EncodedAs (.aluImm op n) [0b11#2 ++ op.code ++ 0b110#3, n] ∧ runs (.aluImm op n) n [] 8)

/-- The result of each rotate and shift of R305 to R320 and its carry: the circular ones as rotations of the byte, the ones through carry as
rotations of the nine bits C and byte. -/
def RotatedTo (op : ShiftOp) (v : Byte) (c : Bool) (res : Byte) (c' : Bool) : Prop :=
  match op with
  | .rlc  => res = v.rotateLeft 1 ∧ c' = v.getLsbD 7
  | .rrc  => res = v.rotateRight 1 ∧ c' = v.getLsbD 0
  | .rl   => BitVec.ofBool c' ++ res = (BitVec.ofBool c ++ v).rotateLeft 1
  | .rr   => BitVec.ofBool c' ++ res = (BitVec.ofBool c ++ v).rotateRight 1
  | .sla  => res = v + v ∧ c' = v.getLsbD 7
  | .sra  => res = v.sshiftRight 1 ∧ c' = v.getLsbD 0
  | .swap => res = v.rotateLeft 4 ∧ c' = false
  | .srl  => res = BitVec.ofNat 8 (v.toNat / 2) ∧ c' = v.getLsbD 0

/-- A byte with bit `b` given the value `x` and every other bit kept. -/
def WithBit (b : BitIndex) (x : Bool) (old new : Byte) : Prop :=
  ∀ k, k < 8 → new.getLsbD k = if k = b.toNat then x else old.getLsbD k

/-- R330: the condition codes. -/
def Holds (cc : Cond) (s : State) : Prop :=
  match cc with
  | .nz => s.f.getLsbD 7 = false
  | .z  => s.f.getLsbD 7 = true
  | .nc => s.f.getLsbD 4 = false
  | .c  => s.f.getLsbD 4 = true

/-- The effect of a call: the post-advance `pc` is pushed and `pc` becomes the target (R122, R336). -/
def Calls (i : Instr) (s : State) (target : Word) (cycles : Nat) : Prop :=
  Runs i s { pc := true, sp := true, stores := [s.sp - 1, s.sp - 2] }
    [.write (s.sp - 1) (highByte s.pc), .write (s.sp - 2) (lowByte s.pc)] cycles
    (fun t => t.pc = target ∧ t.sp = s.sp - 2 ∧ Stored t (s.sp - 1) (highByte s.pc) ∧ Stored t (s.sp - 2) (lowByte s.pc))

end Sys2Proof.Machine
end

