-- ==== Sys2Proof/Certificates/Slice0/Obligations.lean ====
section
/-! DEFINITION. The statements for the provers. Instructions are named through the family functions of Syntax.lean, so one statement holds
for every operand of a family, and every one holds for every MMU unless it says otherwise. `Runs` (Safety.lean) says that `exec` answers a next
state, its frame, its accesses and its cycle count; `Stored` says what a byte reads as where the MMU is the simulator's plain bytes (R60). -/

open Sys2Proof Sys2Proof.Machine

/-! ### Encoding -/

/-- R80 to R96: no bit of an encoding is dropped. -/
def Obligations.DecodeOfEncodeIsTheInstruction : Prop :=
  ∀ (i : Instr) (rest : List Byte), WellFormed i = true → decode (encode i ++ rest) = .ok (i, rest)

/-- R80 to R97: every byte list that decodes is the encoding of what it decodes to, so a word has one meaning. -/
def Obligations.EncodeOfDecodedIsTheBytes : Prop :=
  ∀ (bytes rest : List Byte) (i : Instr), decode bytes = .ok (i, rest) → WellFormed i = true ∧ encode i ++ rest = bytes

/-- R96: the eleven bytes, and no others, have declared length 0, and decode rejects them by name. R84, R85, R87 and R415: through the MMU decode
makes one read of such a byte and raises `IllegalOpcode` with its address, and so it does with any tables on a base byte of length 0 or above 3.
That the fault's `prefixed` is false is the model's deduction (log 4). -/
def Obligations.ElevenIllegalBytesAreRejected : Prop :=
  ∀ (op : Byte),
    (declaredLen op = 0 ↔ op ∈ [0xD3, 0xDB, 0xDD, 0xE3, 0xE4, 0xEB, 0xEC, 0xED, 0xF4, 0xFC, 0xFD]) ∧
    (∀ rest, decode (op :: rest) = .error (.illegalOpcode op) ↔ declaredLen op = 0) ∧
    (∀ (s : State) (a : Word), s.peek a = op → declaredLen op = 0 →
      s.decodeAt referenceTables a = .error (.illegalOpcode a op false) ∧ s.afterDecode referenceTables a = s.noteRead a) ∧
    (∀ (T : InstrTables) (s : State) (a : Word), s.peek a = op → op ≠ 0xCB → ((T.base op).len = 0 ∨ 3 < (T.base op).len) →
      s.decodeAt T a = .error (.illegalOpcode a op false) ∧ s.afterDecode T a = s.noteRead a)

/-- R81: the byte after 0xCB always selects a prefixed entry, even if it is 0xCB itself, and the instruction is those two bytes. -/
def Obligations.ByteAfterThePrefixSelectsAPrefixedEntry : Prop :=
  ∀ (op : Byte) (rest : List Byte), ∃ i, decode (0xCB :: op :: rest) = .ok (i, rest) ∧ encode i = [0xCB, op] ∧ i.length = 2

/-- R85: the reads decode makes, in order, whatever the MMU and the tables, each seeing what the ones before it did to the MMU; and that it changes
nothing else. The last clause gives the lengths of the reference table. -/
def Obligations.DecodeReadsExactlyTheInstructionsBytes : Prop :=
  ∀ (T : InstrTables) (s : State) (a : Word),
    let b := s.peek a
    let r0 := BusEvent.read a b
    let r1 := BusEvent.read (a + 1) ((s.noteRead a).peek (a + 1))
    let r2 := BusEvent.read (a + 2) (((s.noteRead a).noteRead (a + 1)).peek (a + 2))
    let t := s.afterDecode T a
    KeepsAllBut {} s t ∧ t.result = s.result ∧
    Accesses s t
      (if b = 0xCB then [r0, r1]
       else if (T.base b).len = 2 then [r0, r1]
       else if (T.base b).len = 3 then [r0, r1, r2]
       else [r0]) ∧
    ∀ op, (referenceTables.base op).len = declaredLen op

/-- Words written out from R89 to R94 decode to what they stand for; one word for each family. -/
def Obligations.WordsWrittenFromTheSpecDecode : Prop :=
  [[0x00], [0x41], [0x06, 0x7F], [0x31, 0xFE, 0xFF], [0xF5], [0x9C], [0xE6, 0x38], [0x39], [0x38, 0x10], [0xD4, 0x00, 0x40], [0xEF],
   [0xCB, 0x37], [0xCB, 0x7C], [0xCB, 0x9E]].map decode =
  [.ok (.nop, []), .ok (.ldBC, []), .ok (.ldBN8 0x7F, []), .ok (.ldSpN16 0xFFFE, []), .ok (.pushAf, []), .ok (.sbcAH, []),
   .ok (.andN8 0x38, []), .ok (.addHlSp, []), .ok (.jrCE8 0x10, []), .ok (.callNcN16 0x4000, []), .ok (.rst28, []), .ok (.swapA, []),
   .ok (.bit7H, []), .ok (.res3IndHl, [])]

/-! ### 8-bit loads -/

/-- R201 `LD r,r'` and R202 `LD r,n8`. -/
def Obligations.LoadOfARegisterFromARegisterOrImmediate : Prop :=
  ∀ (s : State) (dst : Reg8),
    (∀ r, EncodedAs (.ldRegReg dst r) [0b01#2 ++ dst.code ++ r.code] ∧
      Runs (.ldRegReg dst r) s { regs := [dst] } [] 4 (fun t => t.reg dst = s.reg r)) ∧
    (∀ n, EncodedAs (.ldRegImm dst n) [0b00#2 ++ dst.code ++ 0b110#3, n] ∧
      Runs (.ldRegImm dst n) s { regs := [dst] } [] 8 (fun t => t.reg dst = n))

/-- R203 `LD r,(HL)`, R204 `LD (HL),r`, R205 `LD (HL),n8`. The address is HL before the instruction. -/
def Obligations.LoadAndStoreThroughHl : Prop :=
  ∀ (s : State),
    (∀ dst, EncodedAs (.ldRegInd dst) [0b01#2 ++ dst.code ++ 0b110#3] ∧
      Runs (.ldRegInd dst) s { regs := [dst] } [.read (s.pair .hl) (s.peek (s.pair .hl))] 8
        (fun t => t.reg dst = s.peek (s.pair .hl))) ∧
    (∀ r, EncodedAs (.ldIndReg r) [0b01110#5 ++ r.code] ∧
      Runs (.ldIndReg r) s { stores := [s.pair .hl] } [.write (s.pair .hl) (s.reg r)] 8
        (fun t => Stored t (s.pair .hl) (s.reg r))) ∧
    (∀ n, EncodedAs (.ldIndHlN8 n) [0x36, n] ∧
      Runs (.ldIndHlN8 n) s { stores := [s.pair .hl] } [.write (s.pair .hl) n] 12 (fun t => Stored t (s.pair .hl) n))

/-- R206 `LD A,(BC)`, R207 `LD A,(DE)`, R208 `LD (BC),A`, R209 `LD (DE),A`, R210 `LD A,(n16)`, R211 `LD (n16),A`, R212 `LDH A,(n8)`,
R213 `LDH (n8),A`, R214 `LD A,(C)`, R215 `LD (C),A`. -/
def Obligations.LoadAndStoreOfA : Prop :=
  ∀ (s : State),
    let loads := fun (i : Instr) (a : Word) (n : Nat) =>
      Runs i s { regs := [.a] } [.read a (s.peek a)] n (fun t => t.a = s.peek a)
    let stores := fun (i : Instr) (a : Word) (n : Nat) =>
      Runs i s { stores := [a] } [.write a s.a] n (fun t => Stored t a s.a)
    (EncodedAs .ldAIndBc [0x0A] ∧ loads .ldAIndBc (joinBytes s.b s.c) 8) ∧
    (EncodedAs .ldAIndDe [0x1A] ∧ loads .ldAIndDe (joinBytes s.d s.e) 8) ∧
    (∀ n, EncodedAs (.ldAIndN16 n) [0xFA, lowByte n, highByte n] ∧ loads (.ldAIndN16 n) n 16) ∧
    (∀ n, EncodedAs (.ldhAIndN8 n) [0xF0, n] ∧ loads (.ldhAIndN8 n) (joinBytes 0xFF n) 12) ∧
    (EncodedAs .ldAIndC [0xF2] ∧ loads .ldAIndC (joinBytes 0xFF s.c) 8) ∧
    (EncodedAs .ldIndBcA [0x02] ∧ stores .ldIndBcA (joinBytes s.b s.c) 8) ∧
    (EncodedAs .ldIndDeA [0x12] ∧ stores .ldIndDeA (joinBytes s.d s.e) 8) ∧
    (∀ n, EncodedAs (.ldIndN16A n) [0xEA, lowByte n, highByte n] ∧ stores (.ldIndN16A n) n 16) ∧
    (∀ n, EncodedAs (.ldhIndN8A n) [0xE0, n] ∧ stores (.ldhIndN8A n) (joinBytes 0xFF n) 12) ∧
    (EncodedAs .ldIndCA [0xE2] ∧ stores .ldIndCA (joinBytes 0xFF s.c) 8)

/-- R216 to R219: the access is at the old HL, and HL moves by one modulo 2^16 afterwards. -/
def Obligations.LoadAndStoreMovingHl : Prop :=
  ∀ (s : State),
    let a := s.pair .hl
    (EncodedAs .ldAIndHli [0x2A] ∧ Runs .ldAIndHli s { regs := [.a, .h, .l] } [.read a (s.peek a)] 8
      (fun t => t.a = s.peek a ∧ t.pair .hl = a + 1)) ∧
    (EncodedAs .ldAIndHld [0x3A] ∧ Runs .ldAIndHld s { regs := [.a, .h, .l] } [.read a (s.peek a)] 8
      (fun t => t.a = s.peek a ∧ t.pair .hl = a - 1)) ∧
    (EncodedAs .ldIndHliA [0x22] ∧ Runs .ldIndHliA s { regs := [.h, .l], stores := [a] } [.write a s.a] 8
      (fun t => Stored t a s.a ∧ t.pair .hl = a + 1)) ∧
    (EncodedAs .ldIndHldA [0x32] ∧ Runs .ldIndHldA s { regs := [.h, .l], stores := [a] } [.write a s.a] 8
      (fun t => Stored t a s.a ∧ t.pair .hl = a - 1))

/-! ### 16-bit loads and the stack -/

/-- R230 `LD r16,n16`, R232 `LD SP,HL`. -/
def Obligations.LoadOfAPairOrSp : Prop :=
  ∀ (s : State),
    (∀ p n, EncodedAs (.ldPairImm p n) [0b00#2 ++ p.code ++ 0b0001#4, lowByte n, highByte n] ∧
      Runs (.ldPairImm p n) s { regs := halvesOf p, sp := p == .sp } [] 12 (fun t => t.pair p = n)) ∧
    (EncodedAs .ldSpHl [0xF9] ∧ Runs .ldSpHl s { sp := true } [] 8 (fun t => t.sp = s.pair .hl))

/-- R231 `LD (n16),SP`: low byte first, high byte at the next address modulo 2^16. -/
def Obligations.StoreOfSp : Prop :=
  ∀ (s : State) (n : Word), EncodedAs (.ldIndN16Sp n) [0x08, lowByte n, highByte n] ∧
    Runs (.ldIndN16Sp n) s { stores := [n, n + 1] } [.write n (lowByte s.sp), .write (n + 1) (highByte s.sp)] 20
      (fun t => Stored t n (lowByte s.sp) ∧ Stored t (n + 1) (highByte s.sp))

/-- R233 `LD HL,SP+e8` and R293 `ADD SP,e8`: the signed sum, with H and C from the unsigned add of the low bytes. -/
def Obligations.SumOfSpAndADisplacement : Prop :=
  ∀ (s : State) (e : Byte),
    let g : Flags := { z := false, n := false, h := decide (s.sp.toNat % 16 + e.toNat % 16 > 15),
                       c := decide (s.sp.toNat % 256 + e.toNat > 255) }
    let sum := BitVec.ofInt 16 (s.sp.toNat + e.toInt)
    (EncodedAs (.ldHlSpE8 e) [0xF8, e] ∧ Runs (.ldHlSpE8 e) s { regs := [.h, .l], f := true } [] 12
      (fun t => t.pair .hl = sum ∧ t.f = g.toByte)) ∧
    (EncodedAs (.addSpE8 e) [0xE8, e] ∧ Runs (.addSpE8 e) s { sp := true, f := true } [] 16
      (fun t => t.sp = sum ∧ t.f = g.toByte))

/-- R234 `PUSH r16stk`, with R122: high byte at sp-1, low byte at sp-2. -/
def Obligations.PushStoresThePair : Prop :=
  ∀ (s : State) (p : StackPair), EncodedAs (.pushPair p) [0b11#2 ++ p.code ++ 0b0101#4] ∧
    Runs (.pushPair p) s { sp := true, stores := [s.sp - 1, s.sp - 2] }
      [.write (s.sp - 1) (highByte (s.stackPair p)), .write (s.sp - 2) (lowByte (s.stackPair p))] 16
      (fun t => t.sp = s.sp - 2 ∧ Stored t (s.sp - 1) (highByte (s.stackPair p)) ∧ Stored t (s.sp - 2) (lowByte (s.stackPair p)))

/-- R235 `POP` of BC, DE, HL and R236 `POP AF`, with R123: low byte at sp, then high byte at sp+1, which sees what the first read did to the MMU; F
takes the low byte masked. -/
def Obligations.PopLoadsThePair : Prop :=
  ∀ (s : State),
    let lo := s.peek s.sp
    let hi := (s.noteRead s.sp).peek (s.sp + 1)
    let reads := [BusEvent.read s.sp lo, BusEvent.read (s.sp + 1) hi]
    (∀ (p : Pair) (q : StackPair), (p, q) ∈ [(Pair.bc, StackPair.bc), (.de, .de), (.hl, .hl)] →
      EncodedAs (.popPair q) [0b11#2 ++ q.code ++ 0b0001#4] ∧
      Runs (.popPair q) s { regs := halvesOf p, sp := true } reads 12 (fun t => t.pair p = joinBytes hi lo ∧ t.sp = s.sp + 2)) ∧
    (EncodedAs .popAf [0xF1] ∧ Runs .popAf s { regs := [.a], f := true, sp := true } reads 12
      (fun t => t.a = hi ∧ t.f = lo &&& 0xF0 ∧ t.sp = s.sp + 2))

/-- R124: a pop after a push gives the value back and leaves `sp` where it was, with no write in between to `sp` or the two bytes, where the MMU returns
the bytes last written there: the first clause says that of any MMU, the second of the simulator MMU, which does so by itself (R60). -/
def Obligations.PopAfterPushReturnsTheValue : Prop :=
  ∀ (s u : State) (v : Word), u.sp = (s.push16 v).sp →
    (u.peek (s.sp - 2) = lowByte v → (u.noteRead (s.sp - 2)).peek (s.sp - 1) = highByte v → u.topOfStack = v ∧ u.afterPop.sp = s.sp) ∧
    (s.mmu.isSimulator = true → u.mmu.isSimulator = true → u.peek (s.sp - 1) = (s.push16 v).peek (s.sp - 1) →
      u.peek (s.sp - 2) = (s.push16 v).peek (s.sp - 2) → u.topOfStack = v ∧ u.afterPop.sp = s.sp)

/-! ### 8-bit arithmetic and logic -/

/-- R250: the sums and differences wrap modulo 256, and the four flags, as integers. -/
def Obligations.AddAndSubtractHelpersAreTheIntegerOnes : Prop :=
  ∀ (a v : Byte) (cin : Bool),
    (add8 a v cin).1.toNat = (a.toNat + v.toNat + cin.toNat) % 256 ∧
    (add8 a v cin).2 = { z := decide ((a.toNat + v.toNat + cin.toNat) % 256 = 0), n := false,
                         h := decide (a.toNat % 16 + v.toNat % 16 + cin.toNat > 15),
                         c := decide (a.toNat + v.toNat + cin.toNat > 255) } ∧
    ((sub8 a v cin).1.toNat : Int) = ((a.toNat : Int) - v.toNat - cin.toNat) % 256 ∧
    (sub8 a v cin).2 = { z := decide (((a.toNat : Int) - v.toNat - cin.toNat) % 256 = 0), n := true,
                         h := decide (a.toNat % 16 < v.toNat % 16 + cin.toNat),
                         c := decide (a.toNat < v.toNat + cin.toNat) }

/-- R251 to R256, ADD and ADC, the latter with the carry as it was; R257 to R262, SUB and SBC, the latter with the borrow as it was. -/
def Obligations.AdditionsAndSubtractionsOfBytes : Prop :=
  ∀ (s : State),
    AluForms .add s [.a] (fun v => add8 s.a v false) ∧ AluForms .adc s [.a] (fun v => add8 s.a v (s.f.getLsbD 4)) ∧
    AluForms .sub s [.a] (fun v => sub8 s.a v false) ∧ AluForms .sbc s [.a] (fun v => sub8 s.a v (s.f.getLsbD 4))

/-- R263 to R271: AND sets H; XOR and OR clear it; all three clear N and C. -/
def Obligations.AndXorOr : Prop :=
  ∀ (s : State),
    AluForms .and s [.a] (fun v => (s.a &&& v, { z := decide (s.a &&& v = 0), n := false, h := true, c := false })) ∧
    AluForms .xor s [.a] (fun v => (s.a ^^^ v, { z := decide (s.a = v), n := false, h := false, c := false })) ∧
    AluForms .or s [.a] (fun v => (s.a ||| v, { z := decide (s.a = 0 ∧ v = 0), n := false, h := false, c := false }))

/-- R272 to R274: CP writes the flags of SUB and no register. -/
def Obligations.CompareWritesOnlyFlags : Prop :=
  ∀ (s : State), AluForms .cp s [] (fun v => (s.a, (sub8 s.a v false).2))

/-- R275 `INC r`, R276 `INC (HL)`, R277 `DEC r`, R278 `DEC (HL)`: C is kept. -/
def Obligations.IncrementAndDecrementOfAByte : Prop :=
  ∀ (s : State),
    let a := s.pair .hl
    let up := fun (old : Byte) => ({ z := decide (old = 0xFF), n := false, h := decide (old.toNat % 16 = 15), c := s.f.getLsbD 4 } : Flags)
    let down := fun (old : Byte) => ({ z := decide (old = 0x01), n := true, h := decide (old.toNat % 16 = 0), c := s.f.getLsbD 4 } : Flags)
    (∀ r, EncodedAs (.incReg r) [0b00#2 ++ r.code ++ 0b100#3] ∧
      Runs (.incReg r) s { regs := [r], f := true } [] 4 (fun t => t.reg r = s.reg r + 1 ∧ t.f = (up (s.reg r)).toByte)) ∧
    (EncodedAs .incIndHl [0x34] ∧
      Runs .incIndHl s { f := true, stores := [a] } [.read a (s.peek a), .write a (s.peek a + 1)] 12
        (fun t => Stored t a (s.peek a + 1) ∧ t.f = (up (s.peek a)).toByte)) ∧
    (∀ r, EncodedAs (.decReg r) [0b00#2 ++ r.code ++ 0b101#3] ∧
      Runs (.decReg r) s { regs := [r], f := true } [] 4 (fun t => t.reg r = s.reg r - 1 ∧ t.f = (down (s.reg r)).toByte)) ∧
    (EncodedAs .decIndHl [0x35] ∧
      Runs .decIndHl s { f := true, stores := [a] } [.read a (s.peek a), .write a (s.peek a - 1)] 12
        (fun t => Stored t a (s.peek a - 1) ∧ t.f = (down (s.peek a)).toByte))

/-- R279 `DAA`, for every A and every flag, BCD or not. -/
def Obligations.DecimalAdjust : Prop :=
  ∀ (s : State),
    let n := s.f.getLsbD 6
    let h := s.f.getLsbD 5
    let c := s.f.getLsbD 4
    let big := c || decide (s.a.toNat > 0x99)
    let low := h || decide (s.a.toNat % 16 > 9)
    let r : Byte := if n then s.a - (if c then 0x60 else 0) - (if h then 0x06 else 0)
      else s.a + (if big then 0x60 else 0) + (if low then 0x06 else 0)
    EncodedAs .daa [0x27] ∧ Runs .daa s { regs := [.a], f := true } [] 4
      (fun t => t.a = r ∧ t.f = Flags.toByte { z := decide (r = 0), n := n, h := false, c := if n then c else big })

/-- R280 `CPL`, R281 `SCF`, R282 `CCF`. -/
def Obligations.ComplementAndCarryInstructions : Prop :=
  ∀ (s : State),
    let g := fun (n h c : Bool) => Flags.toByte { z := s.f.getLsbD 7, n := n, h := h, c := c }
    (EncodedAs .cpl [0x2F] ∧ Runs .cpl s { regs := [.a], f := true } [] 4
      (fun t => t.a = ~~~s.a ∧ t.f = g true true (s.f.getLsbD 4))) ∧
    (EncodedAs .scf [0x37] ∧ Runs .scf s { f := true } [] 4 (fun t => t.f = g false false true)) ∧
    (EncodedAs .ccf [0x3F] ∧ Runs .ccf s { f := true } [] 4 (fun t => t.f = g false false (!s.f.getLsbD 4)))

/-! ### 16-bit arithmetic -/

/-- R290 `ADD HL,r16`: Z is kept. -/
def Obligations.AddOfAPairToHl : Prop :=
  ∀ (s : State) (p : Pair),
    let a := s.pair .hl
    let v := s.pair p
    EncodedAs (.addHlPair p) [0b00#2 ++ p.code ++ 0b1001#4] ∧
    Runs (.addHlPair p) s { regs := [.h, .l], f := true } [] 8
      (fun t => t.pair .hl = a + v ∧
        t.f = Flags.toByte { z := s.f.getLsbD 7, n := false, h := decide (a.toNat % 4096 + v.toNat % 4096 > 4095),
                             c := decide (a.toNat + v.toNat > 65535) })

/-- R291 `INC r16`, R292 `DEC r16`: no flag. -/
def Obligations.IncrementAndDecrementOfAPair : Prop :=
  ∀ (s : State) (p : Pair),
    (EncodedAs (.incPair p) [0b00#2 ++ p.code ++ 0b0011#4] ∧
      Runs (.incPair p) s { regs := halvesOf p, sp := p == .sp } [] 8 (fun t => t.pair p = s.pair p + 1)) ∧
    (EncodedAs (.decPair p) [0b00#2 ++ p.code ++ 0b1011#4] ∧
      Runs (.decPair p) s { regs := halvesOf p, sp := p == .sp } [] 8 (fun t => t.pair p = s.pair p - 1))

/-! ### Rotates, shifts and bits -/

/-- R300 to R303: the accumulator rotates, which clear Z whatever the result. -/
def Obligations.AccumulatorRotates : Prop :=
  ∀ (s : State) (i : Instr) (code : Byte) (op : ShiftOp),
    (i, code, op) ∈ [(Instr.rlca, (0x07 : Byte), ShiftOp.rlc), (.rrca, 0x0F, .rrc), (.rla, 0x17, .rl), (.rra, 0x1F, .rr)] →
    EncodedAs i [code] ∧ Runs i s { regs := [.a], f := true } [] 4
      (fun t => ∃ c', RotatedTo op s.a (s.f.getLsbD 4) t.a c' ∧ t.f = Flags.toByte { z := false, n := false, h := false, c := c' })

/-- R305 to R319, the odd rules, with the flags of R304: the prefixed rotates and shifts of a register. -/
def Obligations.PrefixedRotatesOfARegister : Prop :=
  ∀ (s : State) (op : ShiftOp) (r : Reg8),
    EncodedAs (.shiftReg op r) [0xCB, 0b00#2 ++ op.code ++ r.code] ∧
    Runs (.shiftReg op r) s { regs := [r], f := true } [] 8
      (fun t => ∃ c', RotatedTo op (s.reg r) (s.f.getLsbD 4) (t.reg r) c' ∧
        t.f = Flags.toByte { z := decide (t.reg r = 0), n := false, h := false, c := c' })

/-- R306 to R320, the even rules, with the accesses and the flags of R304: the prefixed rotates and shifts of memory at HL, one read, then one
write. -/
def Obligations.PrefixedRotatesOfMemory : Prop :=
  ∀ (s : State) (op : ShiftOp),
    let a := s.pair .hl
    EncodedAs (.shiftInd op) [0xCB, 0b00#2 ++ op.code ++ 0b110#3] ∧
    ∃ res c', RotatedTo op (s.peek a) (s.f.getLsbD 4) res c' ∧
      Runs (.shiftInd op) s { f := true, stores := [a] } [.read a (s.peek a), .write a res] 16
        (fun t => Stored t a res ∧ t.f = Flags.toByte { z := decide (res = 0), n := false, h := false, c := c' })

/-- R321 `BIT b,r`, R322 `BIT b,(HL)`: Z is the complement of the tested bit, C is kept, nothing else is written. -/
def Obligations.BitTest : Prop :=
  ∀ (s : State) (b : BitIndex),
    let a := s.pair .hl
    let flags := fun (v : Byte) => Flags.toByte { z := !v.getLsbD b.toNat, n := false, h := true, c := s.f.getLsbD 4 }
    (∀ r, EncodedAs (.bitReg b r) [0xCB, 0b01#2 ++ b.code ++ r.code] ∧
      Runs (.bitReg b r) s { f := true } [] 8 (fun t => t.f = flags (s.reg r))) ∧
    (EncodedAs (.bitInd b) [0xCB, 0b01#2 ++ b.code ++ 0b110#3] ∧
      Runs (.bitInd b) s { f := true } [.read a (s.peek a)] 12 (fun t => t.f = flags (s.peek a)))

/-- R323 `RES b,r`, R324 `RES b,(HL)`, R325 `SET b,r`, R326 `SET b,(HL)`: one bit, no flag. -/
def Obligations.BitResetAndSet : Prop :=
  ∀ (s : State) (b : BitIndex),
    let a := s.pair .hl
    (∀ r, EncodedAs (.resReg b r) [0xCB, 0b10#2 ++ b.code ++ r.code] ∧
      Runs (.resReg b r) s { regs := [r] } [] 8 (fun t => WithBit b false (s.reg r) (t.reg r))) ∧
    (EncodedAs (.resInd b) [0xCB, 0b10#2 ++ b.code ++ 0b110#3] ∧
      ∃ v, WithBit b false (s.peek a) v ∧
        Runs (.resInd b) s { stores := [a] } [.read a (s.peek a), .write a v] 16 (fun t => Stored t a v)) ∧
    (∀ r, EncodedAs (.setReg b r) [0xCB, 0b11#2 ++ b.code ++ r.code] ∧
      Runs (.setReg b r) s { regs := [r] } [] 8 (fun t => WithBit b true (s.reg r) (t.reg r))) ∧
    (EncodedAs (.setInd b) [0xCB, 0b11#2 ++ b.code ++ 0b110#3] ∧
      ∃ v, WithBit b true (s.peek a) v ∧
        Runs (.setInd b) s { stores := [a] } [.read a (s.peek a), .write a v] 16 (fun t => Stored t a v))

/-! ### Control transfer -/

/-- R331 `JP n16`, R332 `JP cc,n16`, R333 `JP HL`, R334 `JR e8`, R335 `JR cc,e8`: the displacement is signed and is added to the post-advance
`pc` modulo 2^16; not taken leaves `pc` at the post-advance value. -/
def Obligations.Jumps : Prop :=
  ∀ (s : State),
    let jumps := fun (i : Instr) (target : Word) (n : Nat) => Runs i s { pc := true } [] n (fun t => t.pc = target)
    let stays := fun (i : Instr) (n : Nat) => Runs i s {} [] n (fun _ => True)
    let near := fun (e : Byte) => BitVec.ofInt 16 (s.pc.toNat + e.toInt)
    (∀ n, EncodedAs (.jpN16 n) [0xC3, lowByte n, highByte n] ∧ jumps (.jpN16 n) n 16) ∧
    (∀ cc n, EncodedAs (.jpIf cc n) [0b110#3 ++ cc.code ++ 0b010#3, lowByte n, highByte n] ∧
      (Holds cc s → jumps (.jpIf cc n) n 16) ∧ (¬ Holds cc s → stays (.jpIf cc n) 12)) ∧
    (EncodedAs .jpHl [0xE9] ∧ jumps .jpHl (s.pair .hl) 4) ∧
    (∀ e, EncodedAs (.jrE8 e) [0x18, e] ∧ jumps (.jrE8 e) (near e) 12) ∧
    (∀ cc e, EncodedAs (.jrIf cc e) [0b001#3 ++ cc.code ++ 0b000#3, e] ∧
      (Holds cc s → jumps (.jrIf cc e) (near e) 12) ∧ (¬ Holds cc s → stays (.jrIf cc e) 8))

/-- R336 `CALL n16`, R337 `CALL cc,n16`, R341 `RST t`; not taken makes no access and leaves `sp`. -/
def Obligations.CallsAndRestarts : Prop :=
  ∀ (s : State),
    (∀ n, EncodedAs (.callN16 n) [0xCD, lowByte n, highByte n] ∧ Calls (.callN16 n) s n 24) ∧
    (∀ cc n, EncodedAs (.callIf cc n) [0b110#3 ++ cc.code ++ 0b100#3, lowByte n, highByte n] ∧
      (Holds cc s → Calls (.callIf cc n) s n 24) ∧
      (¬ Holds cc s → Runs (.callIf cc n) s {} [] 12 (fun _ => True))) ∧
    (∀ (y : BitVec 3), ∃ t, EncodedAs (.rst t) [0b11#2 ++ y ++ 0b111#3] ∧ Calls (.rst t) s (BitVec.ofNat 16 (8 * y.toNat)) 16)

/-- R338 `RET`, R339 `RET cc`: 16 and 20 cycles; the low byte is read before the high one (R123); not taken makes no access and leaves `sp`. -/
def Obligations.Returns : Prop :=
  ∀ (s : State),
    let lo := s.peek s.sp
    let hi := (s.noteRead s.sp).peek (s.sp + 1)
    let returns := fun (i : Instr) (n : Nat) =>
      Runs i s { pc := true, sp := true } [.read s.sp lo, .read (s.sp + 1) hi] n (fun t => t.pc = joinBytes hi lo ∧ t.sp = s.sp + 2)
    (EncodedAs .ret [0xC9] ∧ returns .ret 16) ∧
    (∀ cc, EncodedAs (.retIf cc) [0b110#3 ++ cc.code ++ 0b000#3] ∧
      (Holds cc s → returns (.retIf cc) 20) ∧
      (¬ Holds cc s → Runs (.retIf cc) s {} [] 8 (fun _ => True)))

/-- R340 `RETI`, the effect: the return address is popped and `ime` is set. -/
def Obligations.ReturnFromInterrupt : Prop :=
  ∀ (s : State),
    let lo := s.peek s.sp
    let hi := (s.noteRead s.sp).peek (s.sp + 1)
    EncodedAs .reti [0xD9] ∧
    Runs .reti s { pc := true, sp := true, ime := true } [.read s.sp lo, .read (s.sp + 1) hi] 16
      (fun t => t.pc = joinBytes hi lo ∧ t.sp = s.sp + 2 ∧ t.ime = true)

/-! ### System instructions -/

/-- The effects of R350 `NOP`, R351 `HALT`, R353 `DI` and R354 `EI`. -/
def Obligations.SystemInstructions : Prop :=
  ∀ (s : State),
    (EncodedAs .nop [0x00] ∧ Runs .nop s {} [] 4 (fun _ => True)) ∧
    (EncodedAs .halt [0x76] ∧ Runs .halt s { halted := true } [] 4 (fun t => t.halted = true)) ∧
    (EncodedAs .di [0xF3] ∧ Runs .di s { ime := true } [] 4 (fun t => t.ime = false)) ∧
    (EncodedAs .ei [0xFB] ∧ Runs .ei s { ime := true } [] 4 (fun t => t.ime = true))

/-- R352 `STOP`: decoded with two bytes, and executing it raises the fault `Unmodelled` with its address, after the `pc` advance and with
nothing else written; the call that executes it ends there, returns the fault and no cycles, and keeps the run mode. -/
def Obligations.StopRaisesUnmodelled : Prop :=
  ∀ (s : State) (p : ParsedInstruction) (n : Byte),
    EncodedAs (.stop n) [0x10, n] ∧ (Instr.stop n).nominalCycles = 4 ∧
    (s.current = some p → exec (.stop n) s = .next (s.raise (.unmodelled p.addr 0x10))) ∧
    (s.fault = none → s.halted = false → s.next = some p → p.instr = .stop n → p.len = 2 →
      step s = .next { s with current := some p, pc := s.pc + 2, fault := some (.unmodelled p.addr 0x10),
                              result := some (.faulted (.unmodelled p.addr 0x10)), trace := [] })

/-- R355 and R356: the rows that decode never answers. Their effect, never invoked by the engine, raises `IllegalOpcode` (log 10). The last
clause: with tables that have an entry with no valid effect, the call that dispatches it raises `IllegalOpcode`, after the `pc` advance and
with nothing else written. R87, R114 and R415 say so of a prefixed entry only; that a base entry of legal length does the same is the model's own
DESIGN CHOICE (log 15). -/
def Obligations.UndispatchedEntriesRaiseIllegalOpcode : Prop :=
  (∀ (s : State) (p : ParsedInstruction), s.current = some p →
    (∀ x, ∃ op, encode (.illegal x) = [op] ∧ declaredLen op = 0 ∧
      exec (.illegal x) s = .next (s.raise (.illegalOpcode p.addr op false))) ∧
    exec .prefixCb s = .next (s.raise (.illegalOpcode p.addr 0xCB false)) ∧
    (∀ (bytes rest : List Byte) (i : Instr), decode bytes = .ok (i, rest) → i ≠ .prefixCb ∧ ∀ x, i ≠ .illegal x)) ∧
  (∀ (T : InstrTables) (s : State) (p : ParsedInstruction), s.fault = none → s.halted = false → s.next = some p →
    (T.entry p.defn).effect = none →
      cycle T s = .next { s with current := some p, pc := s.pc + BitVec.ofNat 16 p.len,
                                 fault := some (.illegalOpcode p.addr p.opcode p.prefixed),
                                 result := some (.faulted (.illegalOpcode p.addr p.opcode p.prefixed)), trace := [] })

/-! ### All instructions -/

/-- R114 and R462: every instruction that decode can answer, STOP apart, completes in every state, raises no fault, and returns the cycle
count of the opcode table: the taken count when its condition holds, the nominal count otherwise. -/
def Obligations.EveryInstructionReturnsItsTableCycles : Prop :=
  ∀ (i : Instr) (s : State), WellFormed i = true → (∀ n, i ≠ .stop n) →
    ∃ t, exec i s = .next t ∧ t.fault = s.fault ∧ t.result = some (.cycles (tableCycles i s))

/-- R82 and R114: an effect writes none of `current`, `next` and `runMode`, and `fault` only by raising one. R50 and R53: it reaches the MMU through
its recorded accesses alone, and takes none back. -/
def Obligations.EffectsKeepThePipelineState : Prop :=
  ∀ (i : Instr) (s t : State), exec i s = .next t →
    t.current = s.current ∧ t.next = s.next ∧ t.runMode = s.runMode ∧
    (t.fault = s.fault ∨ ∃ x, t = s.raise x) ∧ ∃ es, Accesses s t es

/-- R412 and R28: of all effects only EI and RETI set `ime`, only DI clears it, and only HALT writes `halted`. -/
def Obligations.OnlyNamedInstructionsWriteImeAndHalted : Prop :=
  ∀ (i : Instr) (s t : State), exec i s = .next t →
    (t.ime = s.ime ∨ (t.ime = true ∧ (i = .ei ∨ i = .reti)) ∨ (t.ime = false ∧ i = .di)) ∧
    (t.halted = s.halted ∨ (t.halted = true ∧ i = .halt))

/-! ### The engine -/

/-- R110 to R113: the bytes at `pc` decide what a primed core's step runs. Where they decode to `i`, the step is `exec i` on the state in which
`i` is `current`, `pc` has advanced by its length and the MMU has answered the reads of its bytes, followed by `State.afterEffect`. -/
def Obligations.StepRunsTheDecodedInstruction : Prop :=
  ∀ (s : State) (i : Instr) (rest : List Byte), s.fault = none → s.halted = false → decode (s.bytesAt s.pc) = .ok (i, rest) →
    step (s.prime referenceTables) =
      match exec i { s with current := some (recordOf s.pc i), next := some (recordOf s.pc i),
                            pc := s.pc + BitVec.ofNat 16 i.length, mmu := (s.afterDecode referenceTables s.pc).mmu, trace := [],
                            result := some (.cycles 0) } with
      | .next t    => .next (t.afterEffect referenceTables)
      | .fault x   => .fault x
      | .refused x => .refused x

/-- R112 to R114: a call runs the lookahead, not what memory holds now, with any tables (R2); and a step is a call with the reference tables, whose
effects are `exec`. -/
def Obligations.StepRunsTheLookahead : Prop :=
  ∀ (s : State) (p : ParsedInstruction), s.fault = none → s.halted = false → s.next = some p →
    let u := { s with current := some p, pc := s.pc + BitVec.ofNat 16 p.len, trace := [], result := some (.cycles 0) }
    (∀ T, cycle T s =
      match runEffect T p u with
      | .next t    => .next (t.afterEffect T)
      | .fault x   => .fault x
      | .refused x => .refused x) ∧
    step s =
      match exec p.instr u with
      | .next t    => .next (t.afterEffect referenceTables)
      | .fault x   => .fault x
      | .refused x => .refused x

/-- R111, R115, R117 and R417: what follows an effect, with any tables. A raised fault ends the call at once; else the lookahead is decoded at the new
`pc`, and if that raises, the call ends before the interrupt step; else the controller runs, and after a service decode runs again. -/
def Obligations.OrderOfEventsAfterAnEffect : Prop :=
  ∀ (T : InstrTables) (t : State),
    let v := t.afterDecode T t.pc
    (t.fault ≠ none → t.afterEffect T = t) ∧
    (∀ x, t.fault = none → t.decodeAt T t.pc = .error x → t.afterEffect T = v.raise x) ∧
    (∀ p u, t.fault = none → t.decodeAt T t.pc = .ok p → handleInterrupts (v.withNext p) = (false, u) → t.afterEffect T = u.demote) ∧
    (∀ p u q, t.fault = none → t.decodeAt T t.pc = .ok p → handleInterrupts (v.withNext p) = (true, u) →
      u.decodeAt T u.pc = .ok q → t.afterEffect T = ((u.afterDecode T u.pc).withNext q).demote) ∧
    (∀ p u x, t.fault = none → t.decodeAt T t.pc = .ok p → handleInterrupts (v.withNext p) = (true, u) →
      u.decodeAt T u.pc = .error x → t.afterEffect T = (u.afterDecode T u.pc).raise x)

/-- R120: a faulted core performs nothing; an unprimed one raises `NotPrimed` before anything else. -/
def Obligations.FaultedAndUnprimedCalls : Prop :=
  ∀ (s : State),
    (∀ x, s.fault = some x → step s = .fault x) ∧
    (s.fault = none → s.next = none →
      step s = .next { s with fault := some (.notPrimed s.pc), result := some (.faulted (.notPrimed s.pc)), trace := [] })

/-- R119: the value a call returns, when it ends without a fault, with any tables: the executed effect's count, and 0 when the core was halted at its
start, even if the call wakes it and services a source. For a step the effect is `exec`. -/
def Obligations.ReturnValueOfACall : Prop :=
  (∀ (T : InstrTables) (s t : State), cycle T s = .next t → t.fault = none →
    (s.halted = true → t.result = some (.cycles 0)) ∧
    (∀ p u, s.halted = false → s.next = some p → runEffect T p (s.beginCall.promote p) = .next u → t.result = u.result)) ∧
  (∀ (s t : State), step s = .next t → t.fault = none →
    (s.halted = true → t.result = some (.cycles 0)) ∧
    (∀ p u, s.halted = false → s.next = some p → exec p.instr (s.beginCall.promote p) = .next u → t.result = u.result))

/-- R118, R125 and R126: a call that ends without a fault takes SingleStep to Paused and keeps every other mode; a call that ends with a fault
keeps the mode. -/
def Obligations.RunModeAfterACall : Prop :=
  ∀ (s t : State), step s = .next t →
    (t.fault = none → t.runMode = if s.runMode = .singleStep then .paused else s.runMode) ∧
    (t.fault ≠ none → t.runMode = s.runMode)

/-- R31, R65 and R456: with the simulator MMU, that `next` of an unfaulted core is what the bytes at `pc` decode to is kept by every call that answers
a next state, from every state in which it holds, with any tables and so by every step: by a call that executes (each of its stores is seen by
the following instruction), by a halted call that wakes without a service, and by one that services. Priming makes it hold. -/
def Obligations.LookaheadSeesEveryStoreOfTheCall : Prop :=
  (∀ (T : InstrTables) (s t : State), s.LookaheadIsFresh T → cycle T s = .next t → t.LookaheadIsFresh T) ∧
  (∀ (s t : State), s.LookaheadIsFresh referenceTables → step s = .next t → t.LookaheadIsFresh referenceTables) ∧
  (∀ (T : InstrTables) (s : State), (s.prime T).LookaheadIsFresh T)

/-- R127 and R453: priming an unfaulted core fills `next` from the bytes at `pc`, or raises the illegal opcode there (R84, R87, R415). That the
fault's `prefixed` is false is the model's deduction (log 4). -/
def Obligations.PrimingFillsTheLookahead : Prop :=
  ∀ (s : State), s.fault = none →
    let t := s.prime referenceTables
    (∀ i rest, decode (s.bytesAt s.pc) = .ok (i, rest) →
      t.next = some (recordOf s.pc i) ∧ KeepsAllBut {} { s with next := some (recordOf s.pc i) } t) ∧
    (declaredLen (s.peek s.pc) = 0 → t.fault = some (.illegalOpcode s.pc (s.peek s.pc) false) ∧ t.next = s.next)

/-! ### Interrupts -/

/-- R404, with R400, R403, R405 and R406: the controller tries the sources in the order and with the masks of R400, listed here; it reads the IE bit
of each source it tries and the IF bit only of the enabled ones, and tries none after the selected one, the first firable; the selected source
clears `halted` and is serviced if `ime` is set. The order of the reads and the stop at the selected source are the spec's own decision (D25).
The second clause says what it can do with any MMU; the first is exact, with the simulator MMU. -/
def Obligations.ControllerSelectsTheFirstFirableSource : Prop :=
  ∀ (s : State),
    (s.mmu.isSimulator = true →
      let sources : List (Source × Byte) := [(.vblank, 0x01), (.lcdStat, 0x02), (.timer, 0x04), (.serial, 0x08), (.joypad, 0x10)]
      let enabled := fun (m : Byte) => s.peek 0xFFFF &&& m != 0
      let firable := fun (x : Source × Byte) => enabled x.2 && (s.peek 0xFF0F &&& x.2 != 0)
      let selected := sources.find? firable
      let tried := sources.takeWhile (fun x => !firable x) ++ selected.toList
      let reads := tried.flatMap (fun x => BusEvent.read 0xFFFF (s.peek 0xFFFF) ::
        (if enabled x.2 then [.read 0xFF0F (s.peek 0xFF0F)] else []))
      let u := { s with trace := s.trace ++ reads }
      handleInterrupts s =
        match selected with
        | none        => (false, u)
        | some (k, _) => if s.ime then (true, u.wake.serviceInterrupt k) else (false, u.wake)) ∧
    (∃ es, (∀ e ∈ es, ∃ v, e = BusEvent.read 0xFFFF v ∨ e = BusEvent.read 0xFF0F v) ∧
      let u := { s with mmu := s.mmu.afterAccesses es, trace := s.trace ++ es }
      handleInterrupts s = (false, u) ∨ (s.ime = false ∧ handleInterrupts s = (false, u.wake)) ∨
        (s.ime = true ∧ ∃ k, handleInterrupts s = (true, u.wake.serviceInterrupt k)))

/-- R407 and R402, with the order, masks and vectors of R400 listed here (the numbers are the spec's decisions D4 and D5, the order of the four acts
its D26). The first clause is taking an interrupt, with any MMU: `ime` is cleared, the IF bit is cleared, `pc` is pushed high byte first, and `pc`
becomes the vector. The second: with `ime` set and the simulator MMU, the first source of the table whose IE bit and IF bit are both 1 is the one
serviced, and `halted` is cleared (R405); only reads come before the accesses of the service. The IF bit is cleared before the push, so the push
wins where it lands on IF itself. -/
def Obligations.ServiceOfTheSelectedSource : Prop :=
  let table : List (Source × Byte × Word) :=
    [(.vblank, 0x01, 0x0040), (.lcdStat, 0x02, 0x0048), (.timer, 0x04, 0x0050), (.serial, 0x08, 0x0058), (.joypad, 0x10, 0x0060)]
  (∀ (s : State) (k : Source) (m : Byte) (v : Word), (k, m, v) ∈ table →
    let t := s.serviceInterrupt k
    let cleared := s.peek 0xFF0F &&& ~~~m
    KeepsAllBut { sp := true, pc := true, ime := true, stores := [0xFF0F, s.sp - 1, s.sp - 2] } s t ∧
    t.ime = false ∧ t.pc = v ∧ t.sp = s.sp - 2 ∧ t.result = s.result ∧
    Stored t (s.sp - 1) (highByte s.pc) ∧ Stored t (s.sp - 2) (lowByte s.pc) ∧
    (s.sp - 1 ≠ 0xFF0F → s.sp - 2 ≠ 0xFF0F → Stored t 0xFF0F cleared) ∧
    Accesses s t [.read 0xFF0F (s.peek 0xFF0F), .write 0xFF0F cleared, .write (s.sp - 1) (highByte s.pc), .write (s.sp - 2) (lowByte s.pc)]) ∧
  (∀ (s : State) (k : Source) (m : Byte) (v : Word), s.mmu.isSimulator = true → s.ime = true →
    table.find? (fun x => s.peek 0xFFFF &&& x.2.1 != 0 && s.peek 0xFF0F &&& x.2.1 != 0) = some (k, m, v) →
    let cleared := s.peek 0xFF0F &&& ~~~m
    ∃ t scan, handleInterrupts s = (true, t) ∧
      KeepsAllBut { sp := true, pc := true, ime := true, halted := true, stores := [0xFF0F, s.sp - 1, s.sp - 2] } s t ∧
      t.ime = false ∧ t.halted = false ∧ t.pc = v ∧ t.sp = s.sp - 2 ∧
      t.peek (s.sp - 1) = highByte s.pc ∧ t.peek (s.sp - 2) = lowByte s.pc ∧
      (s.sp - 1 ≠ 0xFF0F → s.sp - 2 ≠ 0xFF0F → t.peek 0xFF0F = cleared) ∧
      (∀ e ∈ scan, ∃ a v, e = BusEvent.read a v) ∧
      t.trace = s.trace ++ scan ++ [.read 0xFF0F (s.peek 0xFF0F), .write 0xFF0F cleared, .write (s.sp - 1) (highByte s.pc),
                                    .write (s.sp - 2) (lowByte s.pc)])

/-- R409, with the order, masks and vectors of R400 listed here (decisions D4 and D5): with several sources firable and `ime` set, the highest is
serviced and stops being firable, and every other stays as pending and enabled as it was. The premises are the simulator MMU and a push off IE
and IF, which are plain bytes there (log 1). -/
def Obligations.LowerPrioritySourcesStayPending : Prop :=
  let table : List (Source × Byte × Word) :=
    [(.vblank, 0x01, 0x0040), (.lcdStat, 0x02, 0x0048), (.timer, 0x04, 0x0050), (.serial, 0x08, 0x0058), (.joypad, 0x10, 0x0060)]
  let firable := fun (s : State) (m : Byte) => s.peek 0xFFFF &&& m != 0 && s.peek 0xFF0F &&& m != 0
  ∀ (s : State) (k : Source) (m : Byte) (v : Word), s.mmu.isSimulator = true → s.ime = true →
    table.find? (fun x => firable s x.2.1) = some (k, m, v) →
    (∀ a, a ∈ [s.sp - 1, s.sp - 2] → a ≠ 0xFFFF ∧ a ≠ 0xFF0F) →
    ∃ t, handleInterrupts s = (true, t) ∧ t.pc = v ∧ firable t m = false ∧ t.firable k = false ∧
      (∀ x ∈ table, x.1 ≠ k → firable t x.2.1 = firable s x.2.1) ∧ ∀ j, j ≠ k → t.firable j = s.firable j

/-- R405, R406, R119 and R424: a halted call with `ime` false services nothing, whatever the MMU: it reads IE and IF, returns 0 cycles, and keeps
everything but `halted`: no push, `pc` and IF kept. With the simulator MMU it wakes if a source is firable, and stays halted if none is. -/
def Obligations.WakeWithoutService : Prop :=
  ∀ (s : State) (p : ParsedInstruction), s.fault = none → s.next = some p → s.halted = true → s.ime = false →
    ∃ t es, step s = .next t ∧ (∀ e ∈ es, ∃ v, e = BusEvent.read 0xFFFF v ∨ e = BusEvent.read 0xFF0F v) ∧
      Accesses { s with trace := [] } t es ∧ t.result = some (.cycles 0) ∧
      KeepsAllBut { halted := true } { s with runMode := t.runMode } t ∧
      (s.mmu.isSimulator = true → (∀ k, s.firable k = true → t.halted = false) ∧ ((∀ k, s.firable k = false) → t.halted = true))

/-- R413 with R407, R410 and R340: RETI right after an interrupt was taken completes with `sp`, every register, F and `halted` as they were before it
was taken, with `ime` set, and, with the simulator MMU, `pc` as it was and every byte but IF and the two stack bytes too. That the popped bytes
are the pushed ones rests on that MMU (log 1). The IF bit, the stack bytes and a `halted` that the wake of R405 cleared are not given back. -/
def Obligations.ReturnRestoresWhatServiceSaved : Prop :=
  ∀ (s : State) (k : Source), ∃ t, exec .reti (s.serviceInterrupt k) = .next t ∧
    KeepsAllBut { pc := true, ime := true, stores := [0xFF0F, s.sp - 1, s.sp - 2] } s t ∧ t.ime = true ∧
    (s.mmu.isSimulator = true → t.pc = s.pc)

/-! ### Reset, memory and the invariant -/

/-- R450: the launch state, for any launch values and any MMU. That `result` is none and `trace` is empty is the model's choice: the two fields are its
own (log 11). -/
def Obligations.LaunchState : Prop :=
  ∀ (r : InitRegs) (m : Mmu),
    State.launch r m = { a := r.a, f := r.f &&& 0xF0, b := r.b, c := r.c, d := r.d, e := r.e, h := r.h, l := r.l, sp := r.sp, pc := r.pc,
                         ime := false, halted := false, runMode := .paused, current := none, next := none, fault := none, mmu := m,
                         result := none, trace := [] }

/-- The registers of `State.reset`. The values are those of the profile `PostBootDMG` of R452; that reset takes this profile, the simulator
MMU and a memory that lists nothing is the model's choice (log 1, log 2, log 3). -/
def Obligations.ResetTakesThePostBootProfile : Prop :=
  State.reset.readRegisters = { af := 0x01B0, bc := 0x0013, de := 0x00D8, hl := 0x014D, sp := 0xFFFE, pc := 0x0100 } ∧
  ∀ a, State.reset.peek a = 0x00

/-- The invariant holds at every launch, with any MMU whose plain bytes are canonical, and at reset. -/
def Obligations.LaunchMeetsTheInvariant : Prop :=
  (∀ (r : InitRegs) (m : Mmu), m.wf = true → (State.launch r m).Inv) ∧ State.reset.Inv

/-- R24, R30 and R31, and the canonical form of memory: every step and every host step keeps the invariant, from every state that meets it. -/
def Obligations.EveryTransitionKeepsTheInvariant : Prop :=
  ∀ (s : State), s.Inv → (∀ t, step s = .next t → t.Inv) ∧ (∀ x, (hostAct referenceTables x s).Inv)

/-- R120, R415 and R416 in the form of log 4, which is the model's DESIGN CHOICE: a call that raises a fault answers a next state with the fault
recorded, and a faulted core's step answers `Outcome.fault` with it. So from every state a step stops only with the fault that an earlier call
recorded, never with a refusal, and an unfaulted core's step always answers a next state. -/
def Obligations.StepsStopOnlyWithTheRecordedFault : Prop :=
  ∀ (s : State),
    (∀ x, step s = .fault x ↔ s.fault = some x) ∧ (∀ x, step s ≠ .refused x) ∧ (s.fault = none → ∃ t, step s = .next t)

/-- R464, R459, R416 and R424: how a run ends, and that a normal end lasts. A state meets the conditions of a normal end exactly when the core is not
faulted, is halted and no source is firable. With any tables, state and events, a run that has ended has done so at the first state in which
`fault` is set (it goes wrong) or which a call has left with those conditions (it ends normally), and its observation is the register file with `pc`
and `sp`, `ime`, and memory in that state; a hang never reaches such a state. On a primed core that has ended, with the simulator MMU (another may
answer otherwise the next time, R60), every call leaves it ended, returns 0 and changes nothing but the run mode. What counts as an event, that
"reached after a call" is the state which the call itself leaves, and what stands for memory is the model's reading (log 16). -/
def Obligations.NormalEndIsStable : Prop :=
  (∀ (s : State),
    (s.endedNormally = true ↔ s.fault = none ∧ s.halted = true ∧ ∀ k, s.firable k = false) ∧
    (∀ p, s.mmu.isSimulator = true → s.next = some p → s.endedNormally = true →
      ∃ t, step s = .next t ∧ t.endedNormally = true ∧ t.result = some (.cycles 0) ∧ KeepsAllBut {} { s with runMode := t.runMode } t)) ∧
  (∀ (T : InstrTables) (s : State) (events : List RunMove) (e : RunEnd) (o : Observation),
    let after := fun n => playMoves T s (events.take n)
    let wrong := fun n => (after n).fault ≠ none
    let normal := fun n => (∃ m, n = m + 1 ∧ events[m]? = some .call) ∧
      (after n).fault = none ∧ (after n).halted = true ∧ ∀ k, (after n).firable k = false
    runOutcome T s events = some (e, o) ↔
      ∃ n, n ≤ events.length ∧ (∀ m, m < n → ¬ wrong m ∧ ¬ normal m) ∧ (e = .wrong ∧ wrong n ∨ e = .normal ∧ normal n) ∧
        let t := after n
        o = { registers := { af := joinBytes t.a t.f, bc := joinBytes t.b t.c, de := joinBytes t.d t.e, hl := joinBytes t.h t.l,
                             sp := t.sp, pc := t.pc },
              ime := t.ime, memory := t.mmu }) ∧
  (∀ (T : InstrTables) (s : State) (events : Nat → RunMove),
    let after := fun n => playMoves T s (firstMoves events n)
    RunHangs T s events ↔ ∀ n, (after n).fault = none ∧
      (events n = .call → (after (n + 1)).halted = true → ∃ k, (after (n + 1)).firable k = true))

/-- R125, R411, R455, the host's moves: setting the run mode writes it and nothing else; a device's byte write makes the byte read as written (with the
simulator MMU) and keeps every other byte and all core state; raising a source's pending bit sets that bit of IF and writes no other bit and no
other state, so the source becomes firable exactly if its IE bit is set; advancing the devices keeps all core state, and all of the simulator's
bytes. None of them is an access of the core. -/
def Obligations.HostMovesWriteOnlyWhatTheyName : Prop :=
  ∀ (s : State),
    (∀ m, s.setRunMode m = { s with runMode := m }) ∧
    (∀ a v, let t := s.hostWrite a v
      KeepsAllBut { stores := [a] } s t ∧ Stored t a v ∧ t.trace = s.trace ∧ t.result = s.result) ∧
    (∀ k, let t := s.requestInterrupt k
      KeepsAllBut { stores := [0xFF0F] } s t ∧ Stored t 0xFF0F (s.peek 0xFF0F ||| Config.sourceMask k) ∧
      t.trace = s.trace ∧ t.result = s.result ∧
      (s.mmu.isSimulator = true →
        t.firable k = s.bitRead 0xFFFF (Config.sourceMask k) ∧ ∀ j, j ≠ k → t.firable j = s.firable j)) ∧
    (∀ n, let t := s.advanceDevices n
      KeepsAllBut {} s t ∧ t.trace = s.trace ∧ t.result = s.result)
end

