-- ==== Sys2Proof/Laws/State.lean ====
section
/-! SUPPORT. What each named update of the state leaves in each field: one lemma per field per update, tagged simp, so that no later
proof unfolds a record update. Register updates by operand are stated through the accessors `reg`, `pair` and `f`. -/

namespace Sys2Proof.Machine

/-! #### `setF` (R24) -/

@[simp] theorem State.setF_a (s : State) (v : Byte) : (s.setF v).a = s.a := rfl
@[simp] theorem State.setF_f (s : State) (v : Byte) : (s.setF v).f = v &&& 0xF0 := rfl
@[simp] theorem State.setF_b (s : State) (v : Byte) : (s.setF v).b = s.b := rfl
@[simp] theorem State.setF_c (s : State) (v : Byte) : (s.setF v).c = s.c := rfl
@[simp] theorem State.setF_d (s : State) (v : Byte) : (s.setF v).d = s.d := rfl
@[simp] theorem State.setF_e (s : State) (v : Byte) : (s.setF v).e = s.e := rfl
@[simp] theorem State.setF_h (s : State) (v : Byte) : (s.setF v).h = s.h := rfl
@[simp] theorem State.setF_l (s : State) (v : Byte) : (s.setF v).l = s.l := rfl
@[simp] theorem State.setF_sp (s : State) (v : Byte) : (s.setF v).sp = s.sp := rfl
@[simp] theorem State.setF_pc (s : State) (v : Byte) : (s.setF v).pc = s.pc := rfl
@[simp] theorem State.setF_ime (s : State) (v : Byte) : (s.setF v).ime = s.ime := rfl
@[simp] theorem State.setF_halted (s : State) (v : Byte) : (s.setF v).halted = s.halted := rfl
@[simp] theorem State.setF_runMode (s : State) (v : Byte) : (s.setF v).runMode = s.runMode := rfl
@[simp] theorem State.setF_current (s : State) (v : Byte) : (s.setF v).current = s.current := rfl
@[simp] theorem State.setF_next (s : State) (v : Byte) : (s.setF v).next = s.next := rfl
@[simp] theorem State.setF_fault (s : State) (v : Byte) : (s.setF v).fault = s.fault := rfl
@[simp] theorem State.setF_mmu (s : State) (v : Byte) : (s.setF v).mmu = s.mmu := rfl
@[simp] theorem State.setF_result (s : State) (v : Byte) : (s.setF v).result = s.result := rfl
@[simp] theorem State.setF_trace (s : State) (v : Byte) : (s.setF v).trace = s.trace := rfl

/-! #### `setFlags` -/

@[simp] theorem State.setFlags_a (s : State) (g : Flags) : (s.setFlags g).a = s.a := rfl
@[simp] theorem State.setFlags_f (s : State) (g : Flags) : (s.setFlags g).f = g.toByte &&& 0xF0 := rfl
@[simp] theorem State.setFlags_b (s : State) (g : Flags) : (s.setFlags g).b = s.b := rfl
@[simp] theorem State.setFlags_c (s : State) (g : Flags) : (s.setFlags g).c = s.c := rfl
@[simp] theorem State.setFlags_d (s : State) (g : Flags) : (s.setFlags g).d = s.d := rfl
@[simp] theorem State.setFlags_e (s : State) (g : Flags) : (s.setFlags g).e = s.e := rfl
@[simp] theorem State.setFlags_h (s : State) (g : Flags) : (s.setFlags g).h = s.h := rfl
@[simp] theorem State.setFlags_l (s : State) (g : Flags) : (s.setFlags g).l = s.l := rfl
@[simp] theorem State.setFlags_sp (s : State) (g : Flags) : (s.setFlags g).sp = s.sp := rfl
@[simp] theorem State.setFlags_pc (s : State) (g : Flags) : (s.setFlags g).pc = s.pc := rfl
@[simp] theorem State.setFlags_ime (s : State) (g : Flags) : (s.setFlags g).ime = s.ime := rfl
@[simp] theorem State.setFlags_halted (s : State) (g : Flags) : (s.setFlags g).halted = s.halted := rfl
@[simp] theorem State.setFlags_runMode (s : State) (g : Flags) : (s.setFlags g).runMode = s.runMode := rfl
@[simp] theorem State.setFlags_current (s : State) (g : Flags) : (s.setFlags g).current = s.current := rfl
@[simp] theorem State.setFlags_next (s : State) (g : Flags) : (s.setFlags g).next = s.next := rfl
@[simp] theorem State.setFlags_fault (s : State) (g : Flags) : (s.setFlags g).fault = s.fault := rfl
@[simp] theorem State.setFlags_mmu (s : State) (g : Flags) : (s.setFlags g).mmu = s.mmu := rfl
@[simp] theorem State.setFlags_result (s : State) (g : Flags) : (s.setFlags g).result = s.result := rfl
@[simp] theorem State.setFlags_trace (s : State) (g : Flags) : (s.setFlags g).trace = s.trace := rfl

/-! #### `noteRead` (R51) -/

@[simp] theorem State.noteRead_a (s : State) (x : Word) : (s.noteRead x).a = s.a := rfl
@[simp] theorem State.noteRead_f (s : State) (x : Word) : (s.noteRead x).f = s.f := rfl
@[simp] theorem State.noteRead_b (s : State) (x : Word) : (s.noteRead x).b = s.b := rfl
@[simp] theorem State.noteRead_c (s : State) (x : Word) : (s.noteRead x).c = s.c := rfl
@[simp] theorem State.noteRead_d (s : State) (x : Word) : (s.noteRead x).d = s.d := rfl
@[simp] theorem State.noteRead_e (s : State) (x : Word) : (s.noteRead x).e = s.e := rfl
@[simp] theorem State.noteRead_h (s : State) (x : Word) : (s.noteRead x).h = s.h := rfl
@[simp] theorem State.noteRead_l (s : State) (x : Word) : (s.noteRead x).l = s.l := rfl
@[simp] theorem State.noteRead_sp (s : State) (x : Word) : (s.noteRead x).sp = s.sp := rfl
@[simp] theorem State.noteRead_pc (s : State) (x : Word) : (s.noteRead x).pc = s.pc := rfl
@[simp] theorem State.noteRead_ime (s : State) (x : Word) : (s.noteRead x).ime = s.ime := rfl
@[simp] theorem State.noteRead_halted (s : State) (x : Word) : (s.noteRead x).halted = s.halted := rfl
@[simp] theorem State.noteRead_runMode (s : State) (x : Word) : (s.noteRead x).runMode = s.runMode := rfl
@[simp] theorem State.noteRead_current (s : State) (x : Word) : (s.noteRead x).current = s.current := rfl
@[simp] theorem State.noteRead_next (s : State) (x : Word) : (s.noteRead x).next = s.next := rfl
@[simp] theorem State.noteRead_fault (s : State) (x : Word) : (s.noteRead x).fault = s.fault := rfl
@[simp] theorem State.noteRead_mmu (s : State) (x : Word) : (s.noteRead x).mmu = s.mmu.afterRead x := rfl
@[simp] theorem State.noteRead_result (s : State) (x : Word) : (s.noteRead x).result = s.result := rfl
@[simp] theorem State.noteRead_trace (s : State) (x : Word) : (s.noteRead x).trace = s.trace ++ [.read x (s.peek x)] := rfl

/-! #### `memWrite` (R51) -/

@[simp] theorem State.memWrite_a (s : State) (x : Word) (v : Byte) : (s.memWrite x v).a = s.a := rfl
@[simp] theorem State.memWrite_f (s : State) (x : Word) (v : Byte) : (s.memWrite x v).f = s.f := rfl
@[simp] theorem State.memWrite_b (s : State) (x : Word) (v : Byte) : (s.memWrite x v).b = s.b := rfl
@[simp] theorem State.memWrite_c (s : State) (x : Word) (v : Byte) : (s.memWrite x v).c = s.c := rfl
@[simp] theorem State.memWrite_d (s : State) (x : Word) (v : Byte) : (s.memWrite x v).d = s.d := rfl
@[simp] theorem State.memWrite_e (s : State) (x : Word) (v : Byte) : (s.memWrite x v).e = s.e := rfl
@[simp] theorem State.memWrite_h (s : State) (x : Word) (v : Byte) : (s.memWrite x v).h = s.h := rfl
@[simp] theorem State.memWrite_l (s : State) (x : Word) (v : Byte) : (s.memWrite x v).l = s.l := rfl
@[simp] theorem State.memWrite_sp (s : State) (x : Word) (v : Byte) : (s.memWrite x v).sp = s.sp := rfl
@[simp] theorem State.memWrite_pc (s : State) (x : Word) (v : Byte) : (s.memWrite x v).pc = s.pc := rfl
@[simp] theorem State.memWrite_ime (s : State) (x : Word) (v : Byte) : (s.memWrite x v).ime = s.ime := rfl
@[simp] theorem State.memWrite_halted (s : State) (x : Word) (v : Byte) : (s.memWrite x v).halted = s.halted := rfl
@[simp] theorem State.memWrite_runMode (s : State) (x : Word) (v : Byte) : (s.memWrite x v).runMode = s.runMode := rfl
@[simp] theorem State.memWrite_current (s : State) (x : Word) (v : Byte) : (s.memWrite x v).current = s.current := rfl
@[simp] theorem State.memWrite_next (s : State) (x : Word) (v : Byte) : (s.memWrite x v).next = s.next := rfl
@[simp] theorem State.memWrite_fault (s : State) (x : Word) (v : Byte) : (s.memWrite x v).fault = s.fault := rfl
@[simp] theorem State.memWrite_mmu (s : State) (x : Word) (v : Byte) : (s.memWrite x v).mmu = s.mmu.afterWrite x v := rfl
@[simp] theorem State.memWrite_result (s : State) (x : Word) (v : Byte) : (s.memWrite x v).result = s.result := rfl
@[simp] theorem State.memWrite_trace (s : State) (x : Word) (v : Byte) : (s.memWrite x v).trace = s.trace ++ [.write x v] := rfl

/-! #### `raise` (R415) -/

@[simp] theorem State.raise_a (s : State) (x : Fault) : (s.raise x).a = s.a := rfl
@[simp] theorem State.raise_f (s : State) (x : Fault) : (s.raise x).f = s.f := rfl
@[simp] theorem State.raise_b (s : State) (x : Fault) : (s.raise x).b = s.b := rfl
@[simp] theorem State.raise_c (s : State) (x : Fault) : (s.raise x).c = s.c := rfl
@[simp] theorem State.raise_d (s : State) (x : Fault) : (s.raise x).d = s.d := rfl
@[simp] theorem State.raise_e (s : State) (x : Fault) : (s.raise x).e = s.e := rfl
@[simp] theorem State.raise_h (s : State) (x : Fault) : (s.raise x).h = s.h := rfl
@[simp] theorem State.raise_l (s : State) (x : Fault) : (s.raise x).l = s.l := rfl
@[simp] theorem State.raise_sp (s : State) (x : Fault) : (s.raise x).sp = s.sp := rfl
@[simp] theorem State.raise_pc (s : State) (x : Fault) : (s.raise x).pc = s.pc := rfl
@[simp] theorem State.raise_ime (s : State) (x : Fault) : (s.raise x).ime = s.ime := rfl
@[simp] theorem State.raise_halted (s : State) (x : Fault) : (s.raise x).halted = s.halted := rfl
@[simp] theorem State.raise_runMode (s : State) (x : Fault) : (s.raise x).runMode = s.runMode := rfl
@[simp] theorem State.raise_current (s : State) (x : Fault) : (s.raise x).current = s.current := rfl
@[simp] theorem State.raise_next (s : State) (x : Fault) : (s.raise x).next = s.next := rfl
@[simp] theorem State.raise_fault (s : State) (x : Fault) : (s.raise x).fault = some x := rfl
@[simp] theorem State.raise_mmu (s : State) (x : Fault) : (s.raise x).mmu = s.mmu := rfl
@[simp] theorem State.raise_result (s : State) (x : Fault) : (s.raise x).result = some (.faulted x) := rfl
@[simp] theorem State.raise_trace (s : State) (x : Fault) : (s.raise x).trace = s.trace := rfl

/-! #### `done` (R114) -/

@[simp] theorem State.done_a (s : State) (n : Nat) : (s.done n).a = s.a := rfl
@[simp] theorem State.done_f (s : State) (n : Nat) : (s.done n).f = s.f := rfl
@[simp] theorem State.done_b (s : State) (n : Nat) : (s.done n).b = s.b := rfl
@[simp] theorem State.done_c (s : State) (n : Nat) : (s.done n).c = s.c := rfl
@[simp] theorem State.done_d (s : State) (n : Nat) : (s.done n).d = s.d := rfl
@[simp] theorem State.done_e (s : State) (n : Nat) : (s.done n).e = s.e := rfl
@[simp] theorem State.done_h (s : State) (n : Nat) : (s.done n).h = s.h := rfl
@[simp] theorem State.done_l (s : State) (n : Nat) : (s.done n).l = s.l := rfl
@[simp] theorem State.done_sp (s : State) (n : Nat) : (s.done n).sp = s.sp := rfl
@[simp] theorem State.done_pc (s : State) (n : Nat) : (s.done n).pc = s.pc := rfl
@[simp] theorem State.done_ime (s : State) (n : Nat) : (s.done n).ime = s.ime := rfl
@[simp] theorem State.done_halted (s : State) (n : Nat) : (s.done n).halted = s.halted := rfl
@[simp] theorem State.done_runMode (s : State) (n : Nat) : (s.done n).runMode = s.runMode := rfl
@[simp] theorem State.done_current (s : State) (n : Nat) : (s.done n).current = s.current := rfl
@[simp] theorem State.done_next (s : State) (n : Nat) : (s.done n).next = s.next := rfl
@[simp] theorem State.done_fault (s : State) (n : Nat) : (s.done n).fault = s.fault := rfl
@[simp] theorem State.done_mmu (s : State) (n : Nat) : (s.done n).mmu = s.mmu := rfl
@[simp] theorem State.done_result (s : State) (n : Nat) : (s.done n).result = some (.cycles n) := rfl
@[simp] theorem State.done_trace (s : State) (n : Nat) : (s.done n).trace = s.trace := rfl

/-! #### `jump` (R8) -/

@[simp] theorem State.jump_a (s : State) (x : Word) : (s.jump x).a = s.a := rfl
@[simp] theorem State.jump_f (s : State) (x : Word) : (s.jump x).f = s.f := rfl
@[simp] theorem State.jump_b (s : State) (x : Word) : (s.jump x).b = s.b := rfl
@[simp] theorem State.jump_c (s : State) (x : Word) : (s.jump x).c = s.c := rfl
@[simp] theorem State.jump_d (s : State) (x : Word) : (s.jump x).d = s.d := rfl
@[simp] theorem State.jump_e (s : State) (x : Word) : (s.jump x).e = s.e := rfl
@[simp] theorem State.jump_h (s : State) (x : Word) : (s.jump x).h = s.h := rfl
@[simp] theorem State.jump_l (s : State) (x : Word) : (s.jump x).l = s.l := rfl
@[simp] theorem State.jump_sp (s : State) (x : Word) : (s.jump x).sp = s.sp := rfl
@[simp] theorem State.jump_pc (s : State) (x : Word) : (s.jump x).pc = x := rfl
@[simp] theorem State.jump_ime (s : State) (x : Word) : (s.jump x).ime = s.ime := rfl
@[simp] theorem State.jump_halted (s : State) (x : Word) : (s.jump x).halted = s.halted := rfl
@[simp] theorem State.jump_runMode (s : State) (x : Word) : (s.jump x).runMode = s.runMode := rfl
@[simp] theorem State.jump_current (s : State) (x : Word) : (s.jump x).current = s.current := rfl
@[simp] theorem State.jump_next (s : State) (x : Word) : (s.jump x).next = s.next := rfl
@[simp] theorem State.jump_fault (s : State) (x : Word) : (s.jump x).fault = s.fault := rfl
@[simp] theorem State.jump_mmu (s : State) (x : Word) : (s.jump x).mmu = s.mmu := rfl
@[simp] theorem State.jump_result (s : State) (x : Word) : (s.jump x).result = s.result := rfl
@[simp] theorem State.jump_trace (s : State) (x : Word) : (s.jump x).trace = s.trace := rfl

/-! #### `beginCall` (R111) -/

@[simp] theorem State.beginCall_a (s : State) : (s.beginCall).a = s.a := rfl
@[simp] theorem State.beginCall_f (s : State) : (s.beginCall).f = s.f := rfl
@[simp] theorem State.beginCall_b (s : State) : (s.beginCall).b = s.b := rfl
@[simp] theorem State.beginCall_c (s : State) : (s.beginCall).c = s.c := rfl
@[simp] theorem State.beginCall_d (s : State) : (s.beginCall).d = s.d := rfl
@[simp] theorem State.beginCall_e (s : State) : (s.beginCall).e = s.e := rfl
@[simp] theorem State.beginCall_h (s : State) : (s.beginCall).h = s.h := rfl
@[simp] theorem State.beginCall_l (s : State) : (s.beginCall).l = s.l := rfl
@[simp] theorem State.beginCall_sp (s : State) : (s.beginCall).sp = s.sp := rfl
@[simp] theorem State.beginCall_pc (s : State) : (s.beginCall).pc = s.pc := rfl
@[simp] theorem State.beginCall_ime (s : State) : (s.beginCall).ime = s.ime := rfl
@[simp] theorem State.beginCall_halted (s : State) : (s.beginCall).halted = s.halted := rfl
@[simp] theorem State.beginCall_runMode (s : State) : (s.beginCall).runMode = s.runMode := rfl
@[simp] theorem State.beginCall_current (s : State) : (s.beginCall).current = s.current := rfl
@[simp] theorem State.beginCall_next (s : State) : (s.beginCall).next = s.next := rfl
@[simp] theorem State.beginCall_fault (s : State) : (s.beginCall).fault = s.fault := rfl
@[simp] theorem State.beginCall_mmu (s : State) : (s.beginCall).mmu = s.mmu := rfl
@[simp] theorem State.beginCall_result (s : State) : (s.beginCall).result = some (.cycles 0) := rfl
@[simp] theorem State.beginCall_trace (s : State) : (s.beginCall).trace = [] := rfl

/-! #### `promote` (R112, R113) -/

@[simp] theorem State.promote_a (s : State) (p : ParsedInstruction) : (s.promote p).a = s.a := rfl
@[simp] theorem State.promote_f (s : State) (p : ParsedInstruction) : (s.promote p).f = s.f := rfl
@[simp] theorem State.promote_b (s : State) (p : ParsedInstruction) : (s.promote p).b = s.b := rfl
@[simp] theorem State.promote_c (s : State) (p : ParsedInstruction) : (s.promote p).c = s.c := rfl
@[simp] theorem State.promote_d (s : State) (p : ParsedInstruction) : (s.promote p).d = s.d := rfl
@[simp] theorem State.promote_e (s : State) (p : ParsedInstruction) : (s.promote p).e = s.e := rfl
@[simp] theorem State.promote_h (s : State) (p : ParsedInstruction) : (s.promote p).h = s.h := rfl
@[simp] theorem State.promote_l (s : State) (p : ParsedInstruction) : (s.promote p).l = s.l := rfl
@[simp] theorem State.promote_sp (s : State) (p : ParsedInstruction) : (s.promote p).sp = s.sp := rfl
@[simp] theorem State.promote_pc (s : State) (p : ParsedInstruction) : (s.promote p).pc = s.pc + BitVec.ofNat 16 p.len := rfl
@[simp] theorem State.promote_ime (s : State) (p : ParsedInstruction) : (s.promote p).ime = s.ime := rfl
@[simp] theorem State.promote_halted (s : State) (p : ParsedInstruction) : (s.promote p).halted = s.halted := rfl
@[simp] theorem State.promote_runMode (s : State) (p : ParsedInstruction) : (s.promote p).runMode = s.runMode := rfl
@[simp] theorem State.promote_current (s : State) (p : ParsedInstruction) : (s.promote p).current = some p := rfl
@[simp] theorem State.promote_next (s : State) (p : ParsedInstruction) : (s.promote p).next = s.next := rfl
@[simp] theorem State.promote_fault (s : State) (p : ParsedInstruction) : (s.promote p).fault = s.fault := rfl
@[simp] theorem State.promote_mmu (s : State) (p : ParsedInstruction) : (s.promote p).mmu = s.mmu := rfl
@[simp] theorem State.promote_result (s : State) (p : ParsedInstruction) : (s.promote p).result = s.result := rfl
@[simp] theorem State.promote_trace (s : State) (p : ParsedInstruction) : (s.promote p).trace = s.trace := rfl

/-! #### `demote` (R118) -/

@[simp] theorem State.demote_a (s : State) : (s.demote).a = s.a := rfl
@[simp] theorem State.demote_f (s : State) : (s.demote).f = s.f := rfl
@[simp] theorem State.demote_b (s : State) : (s.demote).b = s.b := rfl
@[simp] theorem State.demote_c (s : State) : (s.demote).c = s.c := rfl
@[simp] theorem State.demote_d (s : State) : (s.demote).d = s.d := rfl
@[simp] theorem State.demote_e (s : State) : (s.demote).e = s.e := rfl
@[simp] theorem State.demote_h (s : State) : (s.demote).h = s.h := rfl
@[simp] theorem State.demote_l (s : State) : (s.demote).l = s.l := rfl
@[simp] theorem State.demote_sp (s : State) : (s.demote).sp = s.sp := rfl
@[simp] theorem State.demote_pc (s : State) : (s.demote).pc = s.pc := rfl
@[simp] theorem State.demote_ime (s : State) : (s.demote).ime = s.ime := rfl
@[simp] theorem State.demote_halted (s : State) : (s.demote).halted = s.halted := rfl
@[simp] theorem State.demote_runMode (s : State) : (s.demote).runMode = if s.runMode = .singleStep then .paused else s.runMode := rfl
@[simp] theorem State.demote_current (s : State) : (s.demote).current = s.current := rfl
@[simp] theorem State.demote_next (s : State) : (s.demote).next = s.next := rfl
@[simp] theorem State.demote_fault (s : State) : (s.demote).fault = s.fault := rfl
@[simp] theorem State.demote_mmu (s : State) : (s.demote).mmu = s.mmu := rfl
@[simp] theorem State.demote_result (s : State) : (s.demote).result = s.result := rfl
@[simp] theorem State.demote_trace (s : State) : (s.demote).trace = s.trace := rfl

/-! #### `afterPop` (R123) -/

@[simp] theorem State.afterPop_a (s : State) : (s.afterPop).a = s.a := rfl
@[simp] theorem State.afterPop_f (s : State) : (s.afterPop).f = s.f := rfl
@[simp] theorem State.afterPop_b (s : State) : (s.afterPop).b = s.b := rfl
@[simp] theorem State.afterPop_c (s : State) : (s.afterPop).c = s.c := rfl
@[simp] theorem State.afterPop_d (s : State) : (s.afterPop).d = s.d := rfl
@[simp] theorem State.afterPop_e (s : State) : (s.afterPop).e = s.e := rfl
@[simp] theorem State.afterPop_h (s : State) : (s.afterPop).h = s.h := rfl
@[simp] theorem State.afterPop_l (s : State) : (s.afterPop).l = s.l := rfl
@[simp] theorem State.afterPop_sp (s : State) : (s.afterPop).sp = s.sp + 2 := rfl
@[simp] theorem State.afterPop_pc (s : State) : (s.afterPop).pc = s.pc := rfl
@[simp] theorem State.afterPop_ime (s : State) : (s.afterPop).ime = s.ime := rfl
@[simp] theorem State.afterPop_halted (s : State) : (s.afterPop).halted = s.halted := rfl
@[simp] theorem State.afterPop_runMode (s : State) : (s.afterPop).runMode = s.runMode := rfl
@[simp] theorem State.afterPop_current (s : State) : (s.afterPop).current = s.current := rfl
@[simp] theorem State.afterPop_next (s : State) : (s.afterPop).next = s.next := rfl
@[simp] theorem State.afterPop_fault (s : State) : (s.afterPop).fault = s.fault := rfl
@[simp] theorem State.afterPop_mmu (s : State) : (s.afterPop).mmu = (s.mmu.afterRead s.sp).afterRead (s.sp + 1) := rfl
@[simp] theorem State.afterPop_result (s : State) : (s.afterPop).result = s.result := rfl
@[simp] theorem State.afterPop_trace (s : State) : (s.afterPop).trace = s.trace ++ [.read s.sp (s.peek s.sp)] ++
      [.read (s.sp + 1) ((s.noteRead s.sp).peek (s.sp + 1))] := rfl

/-! #### `push16` (R122) -/

@[simp] theorem State.push16_a (s : State) (v : Word) : (s.push16 v).a = s.a := by simp [State.push16]
@[simp] theorem State.push16_f (s : State) (v : Word) : (s.push16 v).f = s.f := by simp [State.push16]
@[simp] theorem State.push16_b (s : State) (v : Word) : (s.push16 v).b = s.b := by simp [State.push16]
@[simp] theorem State.push16_c (s : State) (v : Word) : (s.push16 v).c = s.c := by simp [State.push16]
@[simp] theorem State.push16_d (s : State) (v : Word) : (s.push16 v).d = s.d := by simp [State.push16]
@[simp] theorem State.push16_e (s : State) (v : Word) : (s.push16 v).e = s.e := by simp [State.push16]
@[simp] theorem State.push16_h (s : State) (v : Word) : (s.push16 v).h = s.h := by simp [State.push16]
@[simp] theorem State.push16_l (s : State) (v : Word) : (s.push16 v).l = s.l := by simp [State.push16]
@[simp] theorem State.push16_sp (s : State) (v : Word) : (s.push16 v).sp = s.sp - 2 := by simp [State.push16]
@[simp] theorem State.push16_pc (s : State) (v : Word) : (s.push16 v).pc = s.pc := by simp [State.push16]
@[simp] theorem State.push16_ime (s : State) (v : Word) : (s.push16 v).ime = s.ime := by simp [State.push16]
@[simp] theorem State.push16_halted (s : State) (v : Word) : (s.push16 v).halted = s.halted := by simp [State.push16]
@[simp] theorem State.push16_runMode (s : State) (v : Word) : (s.push16 v).runMode = s.runMode := by simp [State.push16]
@[simp] theorem State.push16_current (s : State) (v : Word) : (s.push16 v).current = s.current := by simp [State.push16]
@[simp] theorem State.push16_next (s : State) (v : Word) : (s.push16 v).next = s.next := by simp [State.push16]
@[simp] theorem State.push16_fault (s : State) (v : Word) : (s.push16 v).fault = s.fault := by simp [State.push16]
@[simp] theorem State.push16_mmu (s : State) (v : Word) : (s.push16 v).mmu = (s.mmu.afterWrite (s.sp - 1) (highByte v)).afterWrite (s.sp - 2) (lowByte v) := by simp [State.push16]
@[simp] theorem State.push16_result (s : State) (v : Word) : (s.push16 v).result = s.result := by simp [State.push16]
@[simp] theorem State.push16_trace (s : State) (v : Word) : (s.push16 v).trace = s.trace ++ [.write (s.sp - 1) (highByte v)] ++ [.write (s.sp - 2) (lowByte v)] := by simp [State.push16]

/-! #### `withNext` (R31) -/

@[simp] theorem State.withNext_a (s : State) (p : ParsedInstruction) : (s.withNext p).a = s.a := rfl
@[simp] theorem State.withNext_f (s : State) (p : ParsedInstruction) : (s.withNext p).f = s.f := rfl
@[simp] theorem State.withNext_b (s : State) (p : ParsedInstruction) : (s.withNext p).b = s.b := rfl
@[simp] theorem State.withNext_c (s : State) (p : ParsedInstruction) : (s.withNext p).c = s.c := rfl
@[simp] theorem State.withNext_d (s : State) (p : ParsedInstruction) : (s.withNext p).d = s.d := rfl
@[simp] theorem State.withNext_e (s : State) (p : ParsedInstruction) : (s.withNext p).e = s.e := rfl
@[simp] theorem State.withNext_h (s : State) (p : ParsedInstruction) : (s.withNext p).h = s.h := rfl
@[simp] theorem State.withNext_l (s : State) (p : ParsedInstruction) : (s.withNext p).l = s.l := rfl
@[simp] theorem State.withNext_sp (s : State) (p : ParsedInstruction) : (s.withNext p).sp = s.sp := rfl
@[simp] theorem State.withNext_pc (s : State) (p : ParsedInstruction) : (s.withNext p).pc = s.pc := rfl
@[simp] theorem State.withNext_ime (s : State) (p : ParsedInstruction) : (s.withNext p).ime = s.ime := rfl
@[simp] theorem State.withNext_halted (s : State) (p : ParsedInstruction) : (s.withNext p).halted = s.halted := rfl
@[simp] theorem State.withNext_runMode (s : State) (p : ParsedInstruction) : (s.withNext p).runMode = s.runMode := rfl
@[simp] theorem State.withNext_current (s : State) (p : ParsedInstruction) : (s.withNext p).current = s.current := rfl
@[simp] theorem State.withNext_next (s : State) (p : ParsedInstruction) : (s.withNext p).next = some p := rfl
@[simp] theorem State.withNext_fault (s : State) (p : ParsedInstruction) : (s.withNext p).fault = s.fault := rfl
@[simp] theorem State.withNext_mmu (s : State) (p : ParsedInstruction) : (s.withNext p).mmu = s.mmu := rfl
@[simp] theorem State.withNext_result (s : State) (p : ParsedInstruction) : (s.withNext p).result = s.result := rfl
@[simp] theorem State.withNext_trace (s : State) (p : ParsedInstruction) : (s.withNext p).trace = s.trace := rfl

/-! #### `wake` (R405) -/

@[simp] theorem State.wake_a (s : State) : (s.wake).a = s.a := rfl
@[simp] theorem State.wake_f (s : State) : (s.wake).f = s.f := rfl
@[simp] theorem State.wake_b (s : State) : (s.wake).b = s.b := rfl
@[simp] theorem State.wake_c (s : State) : (s.wake).c = s.c := rfl
@[simp] theorem State.wake_d (s : State) : (s.wake).d = s.d := rfl
@[simp] theorem State.wake_e (s : State) : (s.wake).e = s.e := rfl
@[simp] theorem State.wake_h (s : State) : (s.wake).h = s.h := rfl
@[simp] theorem State.wake_l (s : State) : (s.wake).l = s.l := rfl
@[simp] theorem State.wake_sp (s : State) : (s.wake).sp = s.sp := rfl
@[simp] theorem State.wake_pc (s : State) : (s.wake).pc = s.pc := rfl
@[simp] theorem State.wake_ime (s : State) : (s.wake).ime = s.ime := rfl
@[simp] theorem State.wake_halted (s : State) : (s.wake).halted = false := rfl
@[simp] theorem State.wake_runMode (s : State) : (s.wake).runMode = s.runMode := rfl
@[simp] theorem State.wake_current (s : State) : (s.wake).current = s.current := rfl
@[simp] theorem State.wake_next (s : State) : (s.wake).next = s.next := rfl
@[simp] theorem State.wake_fault (s : State) : (s.wake).fault = s.fault := rfl
@[simp] theorem State.wake_mmu (s : State) : (s.wake).mmu = s.mmu := rfl
@[simp] theorem State.wake_result (s : State) : (s.wake).result = s.result := rfl
@[simp] theorem State.wake_trace (s : State) : (s.wake).trace = s.trace := rfl

/-! #### `hostWrite` (R455) -/

@[simp] theorem State.hostWrite_a (s : State) (x : Word) (v : Byte) : (s.hostWrite x v).a = s.a := rfl
@[simp] theorem State.hostWrite_f (s : State) (x : Word) (v : Byte) : (s.hostWrite x v).f = s.f := rfl
@[simp] theorem State.hostWrite_b (s : State) (x : Word) (v : Byte) : (s.hostWrite x v).b = s.b := rfl
@[simp] theorem State.hostWrite_c (s : State) (x : Word) (v : Byte) : (s.hostWrite x v).c = s.c := rfl
@[simp] theorem State.hostWrite_d (s : State) (x : Word) (v : Byte) : (s.hostWrite x v).d = s.d := rfl
@[simp] theorem State.hostWrite_e (s : State) (x : Word) (v : Byte) : (s.hostWrite x v).e = s.e := rfl
@[simp] theorem State.hostWrite_h (s : State) (x : Word) (v : Byte) : (s.hostWrite x v).h = s.h := rfl
@[simp] theorem State.hostWrite_l (s : State) (x : Word) (v : Byte) : (s.hostWrite x v).l = s.l := rfl
@[simp] theorem State.hostWrite_sp (s : State) (x : Word) (v : Byte) : (s.hostWrite x v).sp = s.sp := rfl
@[simp] theorem State.hostWrite_pc (s : State) (x : Word) (v : Byte) : (s.hostWrite x v).pc = s.pc := rfl
@[simp] theorem State.hostWrite_ime (s : State) (x : Word) (v : Byte) : (s.hostWrite x v).ime = s.ime := rfl
@[simp] theorem State.hostWrite_halted (s : State) (x : Word) (v : Byte) : (s.hostWrite x v).halted = s.halted := rfl
@[simp] theorem State.hostWrite_runMode (s : State) (x : Word) (v : Byte) : (s.hostWrite x v).runMode = s.runMode := rfl
@[simp] theorem State.hostWrite_current (s : State) (x : Word) (v : Byte) : (s.hostWrite x v).current = s.current := rfl
@[simp] theorem State.hostWrite_next (s : State) (x : Word) (v : Byte) : (s.hostWrite x v).next = s.next := rfl
@[simp] theorem State.hostWrite_fault (s : State) (x : Word) (v : Byte) : (s.hostWrite x v).fault = s.fault := rfl
@[simp] theorem State.hostWrite_mmu (s : State) (x : Word) (v : Byte) : (s.hostWrite x v).mmu = s.mmu.afterDeviceWrite x v := rfl
@[simp] theorem State.hostWrite_result (s : State) (x : Word) (v : Byte) : (s.hostWrite x v).result = s.result := rfl
@[simp] theorem State.hostWrite_trace (s : State) (x : Word) (v : Byte) : (s.hostWrite x v).trace = s.trace := rfl

/-! #### `requestInterrupt` (R411) -/

@[simp] theorem State.requestInterrupt_a (s : State) (k : Source) : (s.requestInterrupt k).a = s.a := rfl
@[simp] theorem State.requestInterrupt_f (s : State) (k : Source) : (s.requestInterrupt k).f = s.f := rfl
@[simp] theorem State.requestInterrupt_b (s : State) (k : Source) : (s.requestInterrupt k).b = s.b := rfl
@[simp] theorem State.requestInterrupt_c (s : State) (k : Source) : (s.requestInterrupt k).c = s.c := rfl
@[simp] theorem State.requestInterrupt_d (s : State) (k : Source) : (s.requestInterrupt k).d = s.d := rfl
@[simp] theorem State.requestInterrupt_e (s : State) (k : Source) : (s.requestInterrupt k).e = s.e := rfl
@[simp] theorem State.requestInterrupt_h (s : State) (k : Source) : (s.requestInterrupt k).h = s.h := rfl
@[simp] theorem State.requestInterrupt_l (s : State) (k : Source) : (s.requestInterrupt k).l = s.l := rfl
@[simp] theorem State.requestInterrupt_sp (s : State) (k : Source) : (s.requestInterrupt k).sp = s.sp := rfl
@[simp] theorem State.requestInterrupt_pc (s : State) (k : Source) : (s.requestInterrupt k).pc = s.pc := rfl
@[simp] theorem State.requestInterrupt_ime (s : State) (k : Source) : (s.requestInterrupt k).ime = s.ime := rfl
@[simp] theorem State.requestInterrupt_halted (s : State) (k : Source) : (s.requestInterrupt k).halted = s.halted := rfl
@[simp] theorem State.requestInterrupt_runMode (s : State) (k : Source) : (s.requestInterrupt k).runMode = s.runMode := rfl
@[simp] theorem State.requestInterrupt_current (s : State) (k : Source) : (s.requestInterrupt k).current = s.current := rfl
@[simp] theorem State.requestInterrupt_next (s : State) (k : Source) : (s.requestInterrupt k).next = s.next := rfl
@[simp] theorem State.requestInterrupt_fault (s : State) (k : Source) : (s.requestInterrupt k).fault = s.fault := rfl
@[simp] theorem State.requestInterrupt_mmu (s : State) (k : Source) : (s.requestInterrupt k).mmu = s.mmu.afterRequest k := rfl
@[simp] theorem State.requestInterrupt_result (s : State) (k : Source) : (s.requestInterrupt k).result = s.result := rfl
@[simp] theorem State.requestInterrupt_trace (s : State) (k : Source) : (s.requestInterrupt k).trace = s.trace := rfl

/-! #### `advanceDevices` (R455) -/

@[simp] theorem State.advanceDevices_a (s : State) (n : Nat) : (s.advanceDevices n).a = s.a := rfl
@[simp] theorem State.advanceDevices_f (s : State) (n : Nat) : (s.advanceDevices n).f = s.f := rfl
@[simp] theorem State.advanceDevices_b (s : State) (n : Nat) : (s.advanceDevices n).b = s.b := rfl
@[simp] theorem State.advanceDevices_c (s : State) (n : Nat) : (s.advanceDevices n).c = s.c := rfl
@[simp] theorem State.advanceDevices_d (s : State) (n : Nat) : (s.advanceDevices n).d = s.d := rfl
@[simp] theorem State.advanceDevices_e (s : State) (n : Nat) : (s.advanceDevices n).e = s.e := rfl
@[simp] theorem State.advanceDevices_h (s : State) (n : Nat) : (s.advanceDevices n).h = s.h := rfl
@[simp] theorem State.advanceDevices_l (s : State) (n : Nat) : (s.advanceDevices n).l = s.l := rfl
@[simp] theorem State.advanceDevices_sp (s : State) (n : Nat) : (s.advanceDevices n).sp = s.sp := rfl
@[simp] theorem State.advanceDevices_pc (s : State) (n : Nat) : (s.advanceDevices n).pc = s.pc := rfl
@[simp] theorem State.advanceDevices_ime (s : State) (n : Nat) : (s.advanceDevices n).ime = s.ime := rfl
@[simp] theorem State.advanceDevices_halted (s : State) (n : Nat) : (s.advanceDevices n).halted = s.halted := rfl
@[simp] theorem State.advanceDevices_runMode (s : State) (n : Nat) : (s.advanceDevices n).runMode = s.runMode := rfl
@[simp] theorem State.advanceDevices_current (s : State) (n : Nat) : (s.advanceDevices n).current = s.current := rfl
@[simp] theorem State.advanceDevices_next (s : State) (n : Nat) : (s.advanceDevices n).next = s.next := rfl
@[simp] theorem State.advanceDevices_fault (s : State) (n : Nat) : (s.advanceDevices n).fault = s.fault := rfl
@[simp] theorem State.advanceDevices_mmu (s : State) (n : Nat) : (s.advanceDevices n).mmu = s.mmu.afterAdvance n := rfl
@[simp] theorem State.advanceDevices_result (s : State) (n : Nat) : (s.advanceDevices n).result = s.result := rfl
@[simp] theorem State.advanceDevices_trace (s : State) (n : Nat) : (s.advanceDevices n).trace = s.trace := rfl

/-! #### `aluWith` (R250) -/

@[simp] theorem State.aluWith_a (s : State) (op : AluOp) (v : Byte) : (s.aluWith op v).a = (alu8 op s.a v s.flags.c).1 := rfl
@[simp] theorem State.aluWith_f (s : State) (op : AluOp) (v : Byte) : (s.aluWith op v).f = (alu8 op s.a v s.flags.c).2.toByte &&& 0xF0 := rfl
@[simp] theorem State.aluWith_b (s : State) (op : AluOp) (v : Byte) : (s.aluWith op v).b = s.b := rfl
@[simp] theorem State.aluWith_c (s : State) (op : AluOp) (v : Byte) : (s.aluWith op v).c = s.c := rfl
@[simp] theorem State.aluWith_d (s : State) (op : AluOp) (v : Byte) : (s.aluWith op v).d = s.d := rfl
@[simp] theorem State.aluWith_e (s : State) (op : AluOp) (v : Byte) : (s.aluWith op v).e = s.e := rfl
@[simp] theorem State.aluWith_h (s : State) (op : AluOp) (v : Byte) : (s.aluWith op v).h = s.h := rfl
@[simp] theorem State.aluWith_l (s : State) (op : AluOp) (v : Byte) : (s.aluWith op v).l = s.l := rfl
@[simp] theorem State.aluWith_sp (s : State) (op : AluOp) (v : Byte) : (s.aluWith op v).sp = s.sp := rfl
@[simp] theorem State.aluWith_pc (s : State) (op : AluOp) (v : Byte) : (s.aluWith op v).pc = s.pc := rfl
@[simp] theorem State.aluWith_ime (s : State) (op : AluOp) (v : Byte) : (s.aluWith op v).ime = s.ime := rfl
@[simp] theorem State.aluWith_halted (s : State) (op : AluOp) (v : Byte) : (s.aluWith op v).halted = s.halted := rfl
@[simp] theorem State.aluWith_runMode (s : State) (op : AluOp) (v : Byte) : (s.aluWith op v).runMode = s.runMode := rfl
@[simp] theorem State.aluWith_current (s : State) (op : AluOp) (v : Byte) : (s.aluWith op v).current = s.current := rfl
@[simp] theorem State.aluWith_next (s : State) (op : AluOp) (v : Byte) : (s.aluWith op v).next = s.next := rfl
@[simp] theorem State.aluWith_fault (s : State) (op : AluOp) (v : Byte) : (s.aluWith op v).fault = s.fault := rfl
@[simp] theorem State.aluWith_mmu (s : State) (op : AluOp) (v : Byte) : (s.aluWith op v).mmu = s.mmu := rfl
@[simp] theorem State.aluWith_result (s : State) (op : AluOp) (v : Byte) : (s.aluWith op v).result = s.result := rfl
@[simp] theorem State.aluWith_trace (s : State) (op : AluOp) (v : Byte) : (s.aluWith op v).trace = s.trace := rfl

/-! #### `call` (R336) -/

@[simp] theorem State.call_a (s : State) (x : Word) : (s.call x).a = s.a := by simp [State.call]
@[simp] theorem State.call_f (s : State) (x : Word) : (s.call x).f = s.f := by simp [State.call]
@[simp] theorem State.call_b (s : State) (x : Word) : (s.call x).b = s.b := by simp [State.call]
@[simp] theorem State.call_c (s : State) (x : Word) : (s.call x).c = s.c := by simp [State.call]
@[simp] theorem State.call_d (s : State) (x : Word) : (s.call x).d = s.d := by simp [State.call]
@[simp] theorem State.call_e (s : State) (x : Word) : (s.call x).e = s.e := by simp [State.call]
@[simp] theorem State.call_h (s : State) (x : Word) : (s.call x).h = s.h := by simp [State.call]
@[simp] theorem State.call_l (s : State) (x : Word) : (s.call x).l = s.l := by simp [State.call]
@[simp] theorem State.call_sp (s : State) (x : Word) : (s.call x).sp = s.sp - 2 := by simp [State.call]
@[simp] theorem State.call_pc (s : State) (x : Word) : (s.call x).pc = x := by simp [State.call]
@[simp] theorem State.call_ime (s : State) (x : Word) : (s.call x).ime = s.ime := by simp [State.call]
@[simp] theorem State.call_halted (s : State) (x : Word) : (s.call x).halted = s.halted := by simp [State.call]
@[simp] theorem State.call_runMode (s : State) (x : Word) : (s.call x).runMode = s.runMode := by simp [State.call]
@[simp] theorem State.call_current (s : State) (x : Word) : (s.call x).current = s.current := by simp [State.call]
@[simp] theorem State.call_next (s : State) (x : Word) : (s.call x).next = s.next := by simp [State.call]
@[simp] theorem State.call_fault (s : State) (x : Word) : (s.call x).fault = s.fault := by simp [State.call]
@[simp] theorem State.call_mmu (s : State) (x : Word) : (s.call x).mmu = (s.mmu.afterWrite (s.sp - 1) (highByte s.pc)).afterWrite (s.sp - 2) (lowByte s.pc) := by simp [State.call]
@[simp] theorem State.call_result (s : State) (x : Word) : (s.call x).result = s.result := by simp [State.call]
@[simp] theorem State.call_trace (s : State) (x : Word) : (s.call x).trace = s.trace ++ [.write (s.sp - 1) (highByte s.pc)] ++ [.write (s.sp - 2) (lowByte s.pc)] := by simp [State.call]

/-! #### `popToPc` (R338) -/

@[simp] theorem State.popToPc_a (s : State) : (s.popToPc).a = s.a := by simp [State.popToPc]
@[simp] theorem State.popToPc_f (s : State) : (s.popToPc).f = s.f := by simp [State.popToPc]
@[simp] theorem State.popToPc_b (s : State) : (s.popToPc).b = s.b := by simp [State.popToPc]
@[simp] theorem State.popToPc_c (s : State) : (s.popToPc).c = s.c := by simp [State.popToPc]
@[simp] theorem State.popToPc_d (s : State) : (s.popToPc).d = s.d := by simp [State.popToPc]
@[simp] theorem State.popToPc_e (s : State) : (s.popToPc).e = s.e := by simp [State.popToPc]
@[simp] theorem State.popToPc_h (s : State) : (s.popToPc).h = s.h := by simp [State.popToPc]
@[simp] theorem State.popToPc_l (s : State) : (s.popToPc).l = s.l := by simp [State.popToPc]
@[simp] theorem State.popToPc_sp (s : State) : (s.popToPc).sp = s.sp + 2 := by simp [State.popToPc]
@[simp] theorem State.popToPc_pc (s : State) : (s.popToPc).pc = s.topOfStack := by simp [State.popToPc]
@[simp] theorem State.popToPc_ime (s : State) : (s.popToPc).ime = s.ime := by simp [State.popToPc]
@[simp] theorem State.popToPc_halted (s : State) : (s.popToPc).halted = s.halted := by simp [State.popToPc]
@[simp] theorem State.popToPc_runMode (s : State) : (s.popToPc).runMode = s.runMode := by simp [State.popToPc]
@[simp] theorem State.popToPc_current (s : State) : (s.popToPc).current = s.current := by simp [State.popToPc]
@[simp] theorem State.popToPc_next (s : State) : (s.popToPc).next = s.next := by simp [State.popToPc]
@[simp] theorem State.popToPc_fault (s : State) : (s.popToPc).fault = s.fault := by simp [State.popToPc]
@[simp] theorem State.popToPc_mmu (s : State) : (s.popToPc).mmu = (s.mmu.afterRead s.sp).afterRead (s.sp + 1) := by simp [State.popToPc]
@[simp] theorem State.popToPc_result (s : State) : (s.popToPc).result = s.result := by simp [State.popToPc]
@[simp] theorem State.popToPc_trace (s : State) : (s.popToPc).trace = s.trace ++ [.read s.sp (s.peek s.sp)] ++
      [.read (s.sp + 1) ((s.noteRead s.sp).peek (s.sp + 1))] := by simp [State.popToPc]

/-! #### `returnFromInterrupt` (R340) -/

@[simp] theorem State.returnFromInterrupt_a (s : State) : (s.returnFromInterrupt).a = s.a := by simp [State.returnFromInterrupt]
@[simp] theorem State.returnFromInterrupt_f (s : State) : (s.returnFromInterrupt).f = s.f := by simp [State.returnFromInterrupt]
@[simp] theorem State.returnFromInterrupt_b (s : State) : (s.returnFromInterrupt).b = s.b := by simp [State.returnFromInterrupt]
@[simp] theorem State.returnFromInterrupt_c (s : State) : (s.returnFromInterrupt).c = s.c := by simp [State.returnFromInterrupt]
@[simp] theorem State.returnFromInterrupt_d (s : State) : (s.returnFromInterrupt).d = s.d := by simp [State.returnFromInterrupt]
@[simp] theorem State.returnFromInterrupt_e (s : State) : (s.returnFromInterrupt).e = s.e := by simp [State.returnFromInterrupt]
@[simp] theorem State.returnFromInterrupt_h (s : State) : (s.returnFromInterrupt).h = s.h := by simp [State.returnFromInterrupt]
@[simp] theorem State.returnFromInterrupt_l (s : State) : (s.returnFromInterrupt).l = s.l := by simp [State.returnFromInterrupt]
@[simp] theorem State.returnFromInterrupt_sp (s : State) : (s.returnFromInterrupt).sp = s.sp + 2 := by simp [State.returnFromInterrupt]
@[simp] theorem State.returnFromInterrupt_pc (s : State) : (s.returnFromInterrupt).pc = s.topOfStack := by simp [State.returnFromInterrupt]
@[simp] theorem State.returnFromInterrupt_ime (s : State) : (s.returnFromInterrupt).ime = true := by simp [State.returnFromInterrupt]
@[simp] theorem State.returnFromInterrupt_halted (s : State) : (s.returnFromInterrupt).halted = s.halted := by simp [State.returnFromInterrupt]
@[simp] theorem State.returnFromInterrupt_runMode (s : State) : (s.returnFromInterrupt).runMode = s.runMode := by simp [State.returnFromInterrupt]
@[simp] theorem State.returnFromInterrupt_current (s : State) : (s.returnFromInterrupt).current = s.current := by simp [State.returnFromInterrupt]
@[simp] theorem State.returnFromInterrupt_next (s : State) : (s.returnFromInterrupt).next = s.next := by simp [State.returnFromInterrupt]
@[simp] theorem State.returnFromInterrupt_fault (s : State) : (s.returnFromInterrupt).fault = s.fault := by simp [State.returnFromInterrupt]
@[simp] theorem State.returnFromInterrupt_mmu (s : State) : (s.returnFromInterrupt).mmu = (s.mmu.afterRead s.sp).afterRead (s.sp + 1) := by simp [State.returnFromInterrupt]
@[simp] theorem State.returnFromInterrupt_result (s : State) : (s.returnFromInterrupt).result = s.result := by simp [State.returnFromInterrupt]
@[simp] theorem State.returnFromInterrupt_trace (s : State) : (s.returnFromInterrupt).trace = s.trace ++ [.read s.sp (s.peek s.sp)] ++
      [.read (s.sp + 1) ((s.noteRead s.sp).peek (s.sp + 1))] := by simp [State.returnFromInterrupt]

/-! #### `bitWrite` (R52) -/

@[simp] theorem State.bitWrite_a (s : State) (x : Word) (m : Byte) (v : Bool) : (s.bitWrite x m v).a = s.a := rfl
@[simp] theorem State.bitWrite_f (s : State) (x : Word) (m : Byte) (v : Bool) : (s.bitWrite x m v).f = s.f := rfl
@[simp] theorem State.bitWrite_b (s : State) (x : Word) (m : Byte) (v : Bool) : (s.bitWrite x m v).b = s.b := rfl
@[simp] theorem State.bitWrite_c (s : State) (x : Word) (m : Byte) (v : Bool) : (s.bitWrite x m v).c = s.c := rfl
@[simp] theorem State.bitWrite_d (s : State) (x : Word) (m : Byte) (v : Bool) : (s.bitWrite x m v).d = s.d := rfl
@[simp] theorem State.bitWrite_e (s : State) (x : Word) (m : Byte) (v : Bool) : (s.bitWrite x m v).e = s.e := rfl
@[simp] theorem State.bitWrite_h (s : State) (x : Word) (m : Byte) (v : Bool) : (s.bitWrite x m v).h = s.h := rfl
@[simp] theorem State.bitWrite_l (s : State) (x : Word) (m : Byte) (v : Bool) : (s.bitWrite x m v).l = s.l := rfl
@[simp] theorem State.bitWrite_sp (s : State) (x : Word) (m : Byte) (v : Bool) : (s.bitWrite x m v).sp = s.sp := rfl
@[simp] theorem State.bitWrite_pc (s : State) (x : Word) (m : Byte) (v : Bool) : (s.bitWrite x m v).pc = s.pc := rfl
@[simp] theorem State.bitWrite_ime (s : State) (x : Word) (m : Byte) (v : Bool) : (s.bitWrite x m v).ime = s.ime := rfl
@[simp] theorem State.bitWrite_halted (s : State) (x : Word) (m : Byte) (v : Bool) : (s.bitWrite x m v).halted = s.halted := rfl
@[simp] theorem State.bitWrite_runMode (s : State) (x : Word) (m : Byte) (v : Bool) : (s.bitWrite x m v).runMode = s.runMode := rfl
@[simp] theorem State.bitWrite_current (s : State) (x : Word) (m : Byte) (v : Bool) : (s.bitWrite x m v).current = s.current := rfl
@[simp] theorem State.bitWrite_next (s : State) (x : Word) (m : Byte) (v : Bool) : (s.bitWrite x m v).next = s.next := rfl
@[simp] theorem State.bitWrite_fault (s : State) (x : Word) (m : Byte) (v : Bool) : (s.bitWrite x m v).fault = s.fault := rfl
@[simp] theorem State.bitWrite_mmu (s : State) (x : Word) (m : Byte) (v : Bool) : (s.bitWrite x m v).mmu = (s.mmu.afterRead x).afterWrite x (if v then s.peek x ||| m else s.peek x &&& ~~~m) := rfl
@[simp] theorem State.bitWrite_result (s : State) (x : Word) (m : Byte) (v : Bool) : (s.bitWrite x m v).result = s.result := rfl
@[simp] theorem State.bitWrite_trace (s : State) (x : Word) (m : Byte) (v : Bool) : (s.bitWrite x m v).trace = s.trace ++ [.read x (s.peek x)] ++ [.write x (if v then s.peek x ||| m else s.peek x &&& ~~~m)] := rfl

/-! #### `serviceInterrupt` (R407) -/

@[simp] theorem State.serviceInterrupt_a (s : State) (k : Source) : (s.serviceInterrupt k).a = s.a := by simp [State.serviceInterrupt]
@[simp] theorem State.serviceInterrupt_f (s : State) (k : Source) : (s.serviceInterrupt k).f = s.f := by simp [State.serviceInterrupt]
@[simp] theorem State.serviceInterrupt_b (s : State) (k : Source) : (s.serviceInterrupt k).b = s.b := by simp [State.serviceInterrupt]
@[simp] theorem State.serviceInterrupt_c (s : State) (k : Source) : (s.serviceInterrupt k).c = s.c := by simp [State.serviceInterrupt]
@[simp] theorem State.serviceInterrupt_d (s : State) (k : Source) : (s.serviceInterrupt k).d = s.d := by simp [State.serviceInterrupt]
@[simp] theorem State.serviceInterrupt_e (s : State) (k : Source) : (s.serviceInterrupt k).e = s.e := by simp [State.serviceInterrupt]
@[simp] theorem State.serviceInterrupt_h (s : State) (k : Source) : (s.serviceInterrupt k).h = s.h := by simp [State.serviceInterrupt]
@[simp] theorem State.serviceInterrupt_l (s : State) (k : Source) : (s.serviceInterrupt k).l = s.l := by simp [State.serviceInterrupt]
@[simp] theorem State.serviceInterrupt_sp (s : State) (k : Source) : (s.serviceInterrupt k).sp = s.sp - 2 := by simp [State.serviceInterrupt]
@[simp] theorem State.serviceInterrupt_pc (s : State) (k : Source) : (s.serviceInterrupt k).pc = Config.sourceVector k := by simp [State.serviceInterrupt]
@[simp] theorem State.serviceInterrupt_ime (s : State) (k : Source) : (s.serviceInterrupt k).ime = false := by simp [State.serviceInterrupt]
@[simp] theorem State.serviceInterrupt_halted (s : State) (k : Source) : (s.serviceInterrupt k).halted = s.halted := by simp [State.serviceInterrupt]
@[simp] theorem State.serviceInterrupt_runMode (s : State) (k : Source) : (s.serviceInterrupt k).runMode = s.runMode := by simp [State.serviceInterrupt]
@[simp] theorem State.serviceInterrupt_current (s : State) (k : Source) : (s.serviceInterrupt k).current = s.current := by simp [State.serviceInterrupt]
@[simp] theorem State.serviceInterrupt_next (s : State) (k : Source) : (s.serviceInterrupt k).next = s.next := by simp [State.serviceInterrupt]
@[simp] theorem State.serviceInterrupt_fault (s : State) (k : Source) : (s.serviceInterrupt k).fault = s.fault := by simp [State.serviceInterrupt]
@[simp] theorem State.serviceInterrupt_mmu (s : State) (k : Source) : (s.serviceInterrupt k).mmu = (((s.mmu.afterRead Config.ifAddr).afterWrite Config.ifAddr (s.peek Config.ifAddr &&& ~~~Config.sourceMask k)).afterWrite
      (s.sp - 1) (highByte s.pc)).afterWrite (s.sp - 2) (lowByte s.pc) := by
  simp [State.serviceInterrupt]; rfl
@[simp] theorem State.serviceInterrupt_result (s : State) (k : Source) : (s.serviceInterrupt k).result = s.result := by simp [State.serviceInterrupt]
@[simp] theorem State.serviceInterrupt_trace (s : State) (k : Source) : (s.serviceInterrupt k).trace = s.trace ++ [.read Config.ifAddr (s.peek Config.ifAddr)] ++
      [.write Config.ifAddr (s.peek Config.ifAddr &&& ~~~Config.sourceMask k)] ++
      [.write (s.sp - 1) (highByte s.pc)] ++ [.write (s.sp - 2) (lowByte s.pc)] := by
  simp [State.serviceInterrupt]; exact ⟨rfl, rfl⟩

/-! #### The register updates, through the accessors -/

@[simp] theorem State.setReg_f (s : State) (r : Reg8) (v : Byte) : (s.setReg r v).f = s.f := by cases r <;> rfl
@[simp] theorem State.setReg_sp (s : State) (r : Reg8) (v : Byte) : (s.setReg r v).sp = s.sp := by cases r <;> rfl
@[simp] theorem State.setReg_pc (s : State) (r : Reg8) (v : Byte) : (s.setReg r v).pc = s.pc := by cases r <;> rfl
@[simp] theorem State.setReg_ime (s : State) (r : Reg8) (v : Byte) : (s.setReg r v).ime = s.ime := by cases r <;> rfl
@[simp] theorem State.setReg_halted (s : State) (r : Reg8) (v : Byte) : (s.setReg r v).halted = s.halted := by cases r <;> rfl
@[simp] theorem State.setReg_runMode (s : State) (r : Reg8) (v : Byte) : (s.setReg r v).runMode = s.runMode := by cases r <;> rfl
@[simp] theorem State.setReg_current (s : State) (r : Reg8) (v : Byte) : (s.setReg r v).current = s.current := by cases r <;> rfl
@[simp] theorem State.setReg_next (s : State) (r : Reg8) (v : Byte) : (s.setReg r v).next = s.next := by cases r <;> rfl
@[simp] theorem State.setReg_fault (s : State) (r : Reg8) (v : Byte) : (s.setReg r v).fault = s.fault := by cases r <;> rfl
@[simp] theorem State.setReg_mmu (s : State) (r : Reg8) (v : Byte) : (s.setReg r v).mmu = s.mmu := by cases r <;> rfl
@[simp] theorem State.setReg_result (s : State) (r : Reg8) (v : Byte) : (s.setReg r v).result = s.result := by cases r <;> rfl
@[simp] theorem State.setReg_trace (s : State) (r : Reg8) (v : Byte) : (s.setReg r v).trace = s.trace := by cases r <;> rfl
@[simp] theorem State.setPair_f (s : State) (p : Pair) (v : Word) : (s.setPair p v).f = s.f := by cases p <;> rfl
@[simp] theorem State.setPair_pc (s : State) (p : Pair) (v : Word) : (s.setPair p v).pc = s.pc := by cases p <;> rfl
@[simp] theorem State.setPair_ime (s : State) (p : Pair) (v : Word) : (s.setPair p v).ime = s.ime := by cases p <;> rfl
@[simp] theorem State.setPair_halted (s : State) (p : Pair) (v : Word) : (s.setPair p v).halted = s.halted := by cases p <;> rfl
@[simp] theorem State.setPair_runMode (s : State) (p : Pair) (v : Word) : (s.setPair p v).runMode = s.runMode := by cases p <;> rfl
@[simp] theorem State.setPair_current (s : State) (p : Pair) (v : Word) : (s.setPair p v).current = s.current := by cases p <;> rfl
@[simp] theorem State.setPair_next (s : State) (p : Pair) (v : Word) : (s.setPair p v).next = s.next := by cases p <;> rfl
@[simp] theorem State.setPair_fault (s : State) (p : Pair) (v : Word) : (s.setPair p v).fault = s.fault := by cases p <;> rfl
@[simp] theorem State.setPair_mmu (s : State) (p : Pair) (v : Word) : (s.setPair p v).mmu = s.mmu := by cases p <;> rfl
@[simp] theorem State.setPair_result (s : State) (p : Pair) (v : Word) : (s.setPair p v).result = s.result := by cases p <;> rfl
@[simp] theorem State.setPair_trace (s : State) (p : Pair) (v : Word) : (s.setPair p v).trace = s.trace := by cases p <;> rfl
@[simp] theorem State.setStackPair_sp (s : State) (p : StackPair) (v : Word) : (s.setStackPair p v).sp = s.sp := by cases p <;> rfl
@[simp] theorem State.setStackPair_pc (s : State) (p : StackPair) (v : Word) : (s.setStackPair p v).pc = s.pc := by cases p <;> rfl
@[simp] theorem State.setStackPair_ime (s : State) (p : StackPair) (v : Word) : (s.setStackPair p v).ime = s.ime := by cases p <;> rfl
@[simp] theorem State.setStackPair_halted (s : State) (p : StackPair) (v : Word) : (s.setStackPair p v).halted = s.halted := by cases p <;> rfl
@[simp] theorem State.setStackPair_runMode (s : State) (p : StackPair) (v : Word) : (s.setStackPair p v).runMode = s.runMode := by cases p <;> rfl
@[simp] theorem State.setStackPair_current (s : State) (p : StackPair) (v : Word) : (s.setStackPair p v).current = s.current := by cases p <;> rfl
@[simp] theorem State.setStackPair_next (s : State) (p : StackPair) (v : Word) : (s.setStackPair p v).next = s.next := by cases p <;> rfl
@[simp] theorem State.setStackPair_fault (s : State) (p : StackPair) (v : Word) : (s.setStackPair p v).fault = s.fault := by cases p <;> rfl
@[simp] theorem State.setStackPair_mmu (s : State) (p : StackPair) (v : Word) : (s.setStackPair p v).mmu = s.mmu := by cases p <;> rfl
@[simp] theorem State.setStackPair_result (s : State) (p : StackPair) (v : Word) : (s.setStackPair p v).result = s.result := by cases p <;> rfl
@[simp] theorem State.setStackPair_trace (s : State) (p : StackPair) (v : Word) : (s.setStackPair p v).trace = s.trace := by cases p <;> rfl
@[simp] theorem State.postUpdate_f (s : State) (m : MemOperand) : (s.postUpdate m).f = s.f := by cases m <;> rfl
@[simp] theorem State.postUpdate_sp (s : State) (m : MemOperand) : (s.postUpdate m).sp = s.sp := by cases m <;> rfl
@[simp] theorem State.postUpdate_pc (s : State) (m : MemOperand) : (s.postUpdate m).pc = s.pc := by cases m <;> rfl
@[simp] theorem State.postUpdate_ime (s : State) (m : MemOperand) : (s.postUpdate m).ime = s.ime := by cases m <;> rfl
@[simp] theorem State.postUpdate_halted (s : State) (m : MemOperand) : (s.postUpdate m).halted = s.halted := by cases m <;> rfl
@[simp] theorem State.postUpdate_runMode (s : State) (m : MemOperand) : (s.postUpdate m).runMode = s.runMode := by cases m <;> rfl
@[simp] theorem State.postUpdate_current (s : State) (m : MemOperand) : (s.postUpdate m).current = s.current := by cases m <;> rfl
@[simp] theorem State.postUpdate_next (s : State) (m : MemOperand) : (s.postUpdate m).next = s.next := by cases m <;> rfl
@[simp] theorem State.postUpdate_fault (s : State) (m : MemOperand) : (s.postUpdate m).fault = s.fault := by cases m <;> rfl
@[simp] theorem State.postUpdate_mmu (s : State) (m : MemOperand) : (s.postUpdate m).mmu = s.mmu := by cases m <;> rfl
@[simp] theorem State.postUpdate_result (s : State) (m : MemOperand) : (s.postUpdate m).result = s.result := by cases m <;> rfl
@[simp] theorem State.postUpdate_trace (s : State) (m : MemOperand) : (s.postUpdate m).trace = s.trace := by cases m <;> rfl

/-- `x[r]` after `x[r'] <- v`. -/
@[simp] theorem State.reg_setReg (s : State) (r r' : Reg8) (v : Byte) :
    (s.setReg r' v).reg r = if r = r' then v else s.reg r := by
  cases r <;> cases r' <;> rfl
@[simp] theorem State.reg_setF (s : State) (v : Byte) (r : Reg8) : (s.setF v).reg r = s.reg r := by cases r <;> rfl
@[simp] theorem State.reg_setFlags (s : State) (g : Flags) (r : Reg8) : (s.setFlags g).reg r = s.reg r := by cases r <;> rfl
@[simp] theorem State.reg_noteRead (s : State) (x : Word) (r : Reg8) : (s.noteRead x).reg r = s.reg r := by cases r <;> rfl
@[simp] theorem State.reg_memWrite (s : State) (x : Word) (v : Byte) (r : Reg8) : (s.memWrite x v).reg r = s.reg r := by cases r <;> rfl
@[simp] theorem State.reg_raise (s : State) (x : Fault) (r : Reg8) : (s.raise x).reg r = s.reg r := by cases r <;> rfl
@[simp] theorem State.reg_done (s : State) (n : Nat) (r : Reg8) : (s.done n).reg r = s.reg r := by cases r <;> rfl
@[simp] theorem State.reg_jump (s : State) (x : Word) (r : Reg8) : (s.jump x).reg r = s.reg r := by cases r <;> rfl
@[simp] theorem State.reg_push16 (s : State) (v : Word) (r : Reg8) : (s.push16 v).reg r = s.reg r := by cases r <;> simp [State.reg]
@[simp] theorem State.reg_afterPop (s : State) (r : Reg8) : (s.afterPop).reg r = s.reg r := by cases r <;> simp [State.reg]
@[simp] theorem State.reg_beginCall (s : State) (r : Reg8) : (s.beginCall).reg r = s.reg r := by cases r <;> rfl
@[simp] theorem State.reg_promote (s : State) (p : ParsedInstruction) (r : Reg8) : (s.promote p).reg r = s.reg r := by cases r <;> rfl
@[simp] theorem State.reg_demote (s : State) (r : Reg8) : (s.demote).reg r = s.reg r := by cases r <;> rfl
@[simp] theorem State.reg_call (s : State) (x : Word) (r : Reg8) : (s.call x).reg r = s.reg r := by cases r <;> simp [State.reg]
@[simp] theorem State.reg_popToPc (s : State) (r : Reg8) : (s.popToPc).reg r = s.reg r := by cases r <;> simp [State.reg]
@[simp] theorem State.reg_returnFromInterrupt (s : State) (r : Reg8) : (s.returnFromInterrupt).reg r = s.reg r := by cases r <;> simp [State.reg]
@[simp] theorem State.reg_bitWrite (s : State) (x : Word) (m : Byte) (v : Bool) (r : Reg8) : (s.bitWrite x m v).reg r = s.reg r := by cases r <;> rfl
@[simp] theorem State.reg_withNext (s : State) (p : ParsedInstruction) (r : Reg8) : (s.withNext p).reg r = s.reg r := by cases r <;> rfl
@[simp] theorem State.reg_wake (s : State) (r : Reg8) : (s.wake).reg r = s.reg r := by cases r <;> rfl
@[simp] theorem State.reg_serviceInterrupt (s : State) (k : Source) (r : Reg8) : (s.serviceInterrupt k).reg r = s.reg r := by cases r <;> simp [State.reg]
@[simp] theorem State.reg_hostWrite (s : State) (x : Word) (v : Byte) (r : Reg8) : (s.hostWrite x v).reg r = s.reg r := by cases r <;> rfl
@[simp] theorem State.reg_requestInterrupt (s : State) (k : Source) (r : Reg8) : (s.requestInterrupt k).reg r = s.reg r := by cases r <;> rfl
@[simp] theorem State.reg_advanceDevices (s : State) (n : Nat) (r : Reg8) : (s.advanceDevices n).reg r = s.reg r := by cases r <;> rfl

/-- What a byte reads as depends on the MMU alone. -/
theorem State.peek_eq_of_mmu {s t : State} (h : t.mmu = s.mmu) (x : Word) : t.peek x = s.peek x := by
  unfold State.peek; rw [h]

@[simp] theorem State.peek_setF (s : State) (v : Byte) (x : Word) : (s.setF v).peek x = s.peek x := State.peek_eq_of_mmu (by simp) x
@[simp] theorem State.peek_setFlags (s : State) (g : Flags) (x : Word) : (s.setFlags g).peek x = s.peek x := State.peek_eq_of_mmu (by simp) x
@[simp] theorem State.peek_raise (s : State) (y : Fault) (x : Word) : (s.raise y).peek x = s.peek x := State.peek_eq_of_mmu (by simp) x
@[simp] theorem State.peek_done (s : State) (n : Nat) (x : Word) : (s.done n).peek x = s.peek x := State.peek_eq_of_mmu (by simp) x
@[simp] theorem State.peek_jump (s : State) (y : Word) (x : Word) : (s.jump y).peek x = s.peek x := State.peek_eq_of_mmu (by simp) x
@[simp] theorem State.peek_beginCall (s : State) (x : Word) : (s.beginCall).peek x = s.peek x := State.peek_eq_of_mmu (by simp) x
@[simp] theorem State.peek_promote (s : State) (p : ParsedInstruction) (x : Word) : (s.promote p).peek x = s.peek x := State.peek_eq_of_mmu (by simp) x
@[simp] theorem State.peek_demote (s : State) (x : Word) : (s.demote).peek x = s.peek x := State.peek_eq_of_mmu (by simp) x
@[simp] theorem State.peek_withNext (s : State) (p : ParsedInstruction) (x : Word) : (s.withNext p).peek x = s.peek x := State.peek_eq_of_mmu (by simp) x
@[simp] theorem State.peek_wake (s : State) (x : Word) : (s.wake).peek x = s.peek x := State.peek_eq_of_mmu (by simp) x
@[simp] theorem State.peek_aluWith (s : State) (op : AluOp) (v : Byte) (x : Word) : (s.aluWith op v).peek x = s.peek x := State.peek_eq_of_mmu (by simp) x
@[simp] theorem State.peek_setReg (s : State) (r : Reg8) (v : Byte) (x : Word) : (s.setReg r v).peek x = s.peek x := State.peek_eq_of_mmu (by simp) x
@[simp] theorem State.peek_setPair (s : State) (p : Pair) (v : Word) (x : Word) : (s.setPair p v).peek x = s.peek x := State.peek_eq_of_mmu (by simp) x
@[simp] theorem State.peek_setStackPair (s : State) (p : StackPair) (v : Word) (x : Word) : (s.setStackPair p v).peek x = s.peek x := State.peek_eq_of_mmu (by simp) x
@[simp] theorem State.peek_postUpdate (s : State) (m : MemOperand) (x : Word) : (s.postUpdate m).peek x = s.peek x := State.peek_eq_of_mmu (by simp) x

end Sys2Proof.Machine
end

