-- ==== Sys2Proof/Laws/Flags.lean ====
section
/-! SUPPORT. The laws of F and of the register pairs: the four flag bits and the byte that holds them, what a write of F leaves in it, and what
the pair updates leave in each register. -/

namespace Sys2Proof.Machine

/-! ### F and its four bits (R23, R24) -/

@[simp] theorem Flags.toByte_masked (g : Flags) : g.toByte &&& 0xF0#8 = g.toByte := by
  obtain ⟨z, n, h, c⟩ := g; revert z n h c; decide

@[simp] theorem Flags.toByte_lowNibble (g : Flags) : g.toByte &&& 0x0F#8 = 0#8 := by
  obtain ⟨z, n, h, c⟩ := g; revert z n h c; decide

@[simp] theorem Flags.ofByte_toByte (g : Flags) : Flags.ofByte g.toByte = g := by
  obtain ⟨z, n, h, c⟩ := g; revert z n h c; decide

theorem Flags.toByte_ofByte (v : Byte) : (Flags.ofByte v).toByte = v &&& 0xF0#8 := by revert v; decide

@[simp] theorem masked_lowNibble (v : Byte) : v &&& 0xF0#8 &&& 0x0F#8 = 0#8 := by revert v; decide

theorem masked_of_lowNibble {v : Byte} (h : v &&& 0x0F#8 = 0#8) : v &&& 0xF0#8 = v := by revert v; decide

@[simp] theorem State.flags_setFlags (s : State) (g : Flags) : (s.setFlags g).flags = g := by
  simp [State.flags]

theorem State.flags_eq (s : State) :
    s.flags = { z := s.f.getLsbD 7, n := s.f.getLsbD 6, h := s.f.getLsbD 5, c := s.f.getLsbD 4 } := rfl

/-! ### Low bits as integers: what simp leaves of a mask under `toNat` -/

theorem and_15_eq_mod (n : Nat) : n &&& 15 = n % 16 := Nat.and_two_pow_sub_one_eq_mod n 4

theorem and_255_eq_mod (n : Nat) : n &&& 255 = n % 256 := Nat.and_two_pow_sub_one_eq_mod n 8

theorem and_4095_eq_mod (n : Nat) : n &&& 4095 = n % 4096 := Nat.and_two_pow_sub_one_eq_mod n 12

end Sys2Proof.Machine
end

