-- ==== Sys2Proof/Laws/Memory.lean ====
section
/-! SUPPORT. The laws of memory: a read after a write, that a write leaves every other byte alone, that every operation keeps the
canonical form; then the laws of the MMU, of any MMU and of the simulator, and the byte-order helpers. -/

namespace Sys2Proof.Machine

theorem Memory.lookup_insert_same (m : Memory) (a : Nat) (v : Byte) : (Memory.insert m a v).lookup a = v := by
  induction m with
  | nil => simp [Memory.insert, Memory.lookup]
  | cons c rest ih =>
    obtain ⟨k, w⟩ := c
    simp only [Memory.insert]
    split
    · simp [Memory.lookup]
    · split
      · simp [Memory.lookup]
      · rename_i h1 h2
        have hk : k ≠ a := fun h => h2 h.symm
        simp [Memory.lookup, hk, ih]

theorem Memory.lookup_insert_other (m : Memory) {a x : Nat} (v : Byte) (h : x ≠ a) :
    (Memory.insert m a v).lookup x = m.lookup x := by
  induction m with
  | nil => simp [Memory.insert, Memory.lookup, Ne.symm h]
  | cons c rest ih =>
    obtain ⟨k, w⟩ := c
    simp only [Memory.insert]
    split
    · simp [Memory.lookup, Ne.symm h]
    · split
      · rename_i h2; subst h2; simp [Memory.lookup, Ne.symm h]
      · simp only [Memory.lookup]; split <;> simp_all

theorem Memory.lookup_erase_same (m : Memory) (a : Nat) :
    Memory.lookup (m.filter (fun c => decide (c.1 ≠ a))) a = Config.unlistedByte := by
  induction m with
  | nil => rfl
  | cons c rest ih =>
    obtain ⟨k, w⟩ := c
    by_cases h : k = a
    · simpa [List.filter, h] using ih
    · simp only [ne_eq, decide_not] at ih
      simp [List.filter, h, Memory.lookup, ih]

theorem Memory.lookup_erase_other (m : Memory) {a x : Nat} (h : x ≠ a) :
    Memory.lookup (m.filter (fun c => decide (c.1 ≠ a))) x = m.lookup x := by
  induction m with
  | nil => rfl
  | cons c rest ih =>
    obtain ⟨k, w⟩ := c
    simp only [ne_eq, decide_not] at ih
    by_cases hk : k = a
    · subst hk; simp [List.filter, Memory.lookup, Ne.symm h, ih]
    · simp [List.filter, hk, Memory.lookup, ih]

/-- A read after a write to the same address gives the byte written. -/
@[simp] theorem Memory.lookup_store_same (m : Memory) (a : Nat) (v : Byte) : (Memory.store m a v).lookup a = v := by
  unfold Memory.store
  split
  · rename_i h; rw [h]; exact Memory.lookup_erase_same m a
  · exact Memory.lookup_insert_same m a v

/-- A write leaves every other address alone. -/
theorem Memory.lookup_store_other (m : Memory) {a x : Nat} (v : Byte) (h : x ≠ a) :
    (Memory.store m a v).lookup x = m.lookup x := by
  unfold Memory.store
  split
  · exact Memory.lookup_erase_other m h
  · exact Memory.lookup_insert_other m v h

/-! ### The canonical form -/

theorem Memory.wfFrom_mono {m : Memory} {low low' : Nat} (h : Memory.wfFrom low m = true) (hl : low' ≤ low) :
    Memory.wfFrom low' m = true := by
  cases m with
  | nil => rfl
  | cons c rest =>
    simp only [Memory.wfFrom, Bool.and_eq_true, decide_eq_true_eq] at h ⊢
    exact ⟨⟨⟨by omega, h.1.1.2⟩, h.1.2⟩, h.2⟩

theorem Memory.wfFrom_insert {m : Memory} {low a : Nat} {v : Byte} (h : Memory.wfFrom low m = true) (hl : low ≤ a)
    (ha : a < 65536) (hv : v ≠ Config.unlistedByte) : Memory.wfFrom low (Memory.insert m a v) = true := by
  induction m generalizing low with
  | nil => simp [Memory.insert, Memory.wfFrom, hl, ha, hv]
  | cons c rest ih =>
    obtain ⟨k, w⟩ := c
    simp only [Memory.wfFrom, Bool.and_eq_true, decide_eq_true_eq] at h
    simp only [Memory.insert]
    split
    · simp only [Memory.wfFrom, Bool.and_eq_true, decide_eq_true_eq]
      exact ⟨⟨⟨hl, ha⟩, hv⟩, ⟨⟨by omega, h.1.1.2⟩, h.1.2⟩, h.2⟩
    · split
      · rename_i h2; subst h2
        simp only [Memory.wfFrom, Bool.and_eq_true, decide_eq_true_eq]
        exact ⟨⟨⟨hl, ha⟩, hv⟩, h.2⟩
      · simp only [Memory.wfFrom, Bool.and_eq_true, decide_eq_true_eq]
        exact ⟨h.1, ih h.2 (by omega)⟩

theorem Memory.wfFrom_erase {m : Memory} {low : Nat} (a : Nat) (h : Memory.wfFrom low m = true) :
    Memory.wfFrom low (m.filter (fun c => decide (c.1 ≠ a))) = true := by
  induction m generalizing low with
  | nil => rfl
  | cons c rest ih =>
    obtain ⟨k, w⟩ := c
    simp only [Memory.wfFrom, Bool.and_eq_true, decide_eq_true_eq] at h
    have ih' := ih h.2
    simp only [ne_eq, decide_not] at ih' ⊢
    by_cases hk : k = a
    · simpa [List.filter, hk] using Memory.wfFrom_mono ih' (by omega)
    · simp only [List.filter, hk, decide_false, Bool.not_false, Memory.wfFrom, Bool.and_eq_true, decide_eq_true_eq]
      exact ⟨h.1, ih'⟩

/-- Every write keeps the canonical form. -/
theorem Memory.wf_store {m : Memory} {a : Nat} (v : Byte) (ha : a < 65536) (h : m.wf = true) :
    (Memory.store m a v).wf = true := by
  unfold Memory.store
  split
  · exact Memory.wfFrom_erase a h
  · exact Memory.wfFrom_insert h (Nat.zero_le a) ha ‹_›

theorem Memory.lookup_below {m : Memory} {low x : Nat} (h : Memory.wfFrom low m = true) (hx : x < low) :
    m.lookup x = Config.unlistedByte := by
  induction m generalizing low with
  | nil => rfl
  | cons c rest ih =>
    obtain ⟨k, w⟩ := c
    simp only [Memory.wfFrom, Bool.and_eq_true, decide_eq_true_eq] at h
    have hk : k ≠ x := by omega
    simp [Memory.lookup, hk, ih h.2 (by omega : x < k + 1)]

/-- The memory of reset is canonical. -/
theorem reset_mmu_wf : State.reset.mmu.wf = true := rfl

/-! ### The MMU: its kind never changes -/

@[simp] theorem Mmu.isSimulator_afterRead (m : Mmu) (a : Word) : (m.afterRead a).isSimulator = m.isSimulator := by cases m <;> rfl
@[simp] theorem Mmu.isSimulator_afterWrite (m : Mmu) (a : Word) (v : Byte) : (m.afterWrite a v).isSimulator = m.isSimulator := by
  cases m <;> rfl
@[simp] theorem Mmu.isSimulator_afterDeviceWrite (m : Mmu) (a : Word) (v : Byte) :
    (m.afterDeviceWrite a v).isSimulator = m.isSimulator := by cases m <;> rfl
@[simp] theorem Mmu.isSimulator_afterRequest (m : Mmu) (k : Source) : (m.afterRequest k).isSimulator = m.isSimulator := by
  cases m <;> rfl
@[simp] theorem Mmu.isSimulator_afterAdvance (m : Mmu) (n : Nat) : (m.afterAdvance n).isSimulator = m.isSimulator := by cases m <;> rfl

@[simp] theorem Mmu.isSimulator_afterAccesses (m : Mmu) (es : List BusEvent) :
    (m.afterAccesses es).isSimulator = m.isSimulator := by
  induction es generalizing m with
  | nil => rfl
  | cons e es ih => cases e <;> simp [Mmu.afterAccesses, ih]

theorem Mmu.afterAccesses_append (m : Mmu) (es fs : List BusEvent) :
    m.afterAccesses (es ++ fs) = (m.afterAccesses es).afterAccesses fs := by
  induction es generalizing m with
  | nil => rfl
  | cons e es ih => cases e <;> simp [Mmu.afterAccesses, ih]

/-! ### The simulator MMU (R60) -/

/-- A read of the simulator has no side effect. -/
theorem Mmu.afterRead_of_simulator {m : Mmu} (h : m.isSimulator = true) (a : Word) : m.afterRead a = m := by
  cases m with
  | simulator _ => rfl
  | external _ _ => cases h

theorem Mmu.afterAccesses_reads {m : Mmu} (h : m.isSimulator = true) {es : List BusEvent}
    (hes : ∀ e ∈ es, ∃ a v, e = BusEvent.read a v) : m.afterAccesses es = m := by
  induction es with
  | nil => rfl
  | cons e es ih =>
    obtain ⟨a, v, rfl⟩ := hes _ (List.mem_cons_self ..)
    rw [Mmu.afterAccesses, Mmu.afterRead_of_simulator h]
    exact ih fun e he => hes e (List.mem_cons_of_mem _ he)

/-- A read of the simulator after a write gives the byte written, and every other byte as before. -/
theorem Mmu.answer_afterWrite {m : Mmu} (h : m.isSimulator = true) (a x : Word) (v : Byte) :
    (m.afterWrite a v).answer x = if x = a then v else m.answer x := by
  cases m with
  | simulator m =>
    simp only [Mmu.afterWrite, Mmu.answer]
    split
    · rename_i hx; rw [hx]; exact Memory.lookup_store_same ..
    · rename_i hx; exact Memory.lookup_store_other _ _ (fun e => hx (BitVec.eq_of_toNat_eq e))
  | external _ _ => cases h

/-- A device's write to the simulator is a write. -/
theorem Mmu.afterDeviceWrite_of_simulator {m : Mmu} (h : m.isSimulator = true) (a : Word) (v : Byte) :
    m.afterDeviceWrite a v = m.afterWrite a v := by
  cases m with
  | simulator _ => rfl
  | external _ _ => cases h

/-- A device's request to the simulator sets the source's bit of IF. -/
theorem Mmu.afterRequest_of_simulator {m : Mmu} (h : m.isSimulator = true) (k : Source) :
    m.afterRequest k = m.afterWrite Config.ifAddr (m.answer Config.ifAddr ||| Config.sourceMask k) := by
  cases m with
  | simulator _ => rfl
  | external _ _ => cases h

theorem Mmu.afterAdvance_of_simulator {m : Mmu} (h : m.isSimulator = true) (n : Nat) : m.afterAdvance n = m := by
  cases m with
  | simulator _ => rfl
  | external _ _ => cases h

/-! ### Every operation keeps the canonical form -/

@[simp] theorem Mmu.wf_afterRead (m : Mmu) (a : Word) : (m.afterRead a).wf = m.wf := by cases m <;> rfl

theorem Mmu.wf_afterWrite {m : Mmu} (a : Word) (v : Byte) (h : m.wf = true) : (m.afterWrite a v).wf = true := by
  cases m with
  | simulator m => exact Memory.wf_store v a.isLt h
  | external _ _ => rfl

theorem Mmu.wf_afterDeviceWrite {m : Mmu} (a : Word) (v : Byte) (h : m.wf = true) : (m.afterDeviceWrite a v).wf = true := by
  cases m with
  | simulator m => exact Memory.wf_store v a.isLt h
  | external _ _ => rfl

theorem Mmu.wf_afterRequest {m : Mmu} (k : Source) (h : m.wf = true) : (m.afterRequest k).wf = true := by
  cases m with
  | simulator m => exact Memory.wf_store _ Config.ifAddr.isLt h
  | external _ _ => rfl

@[simp] theorem Mmu.wf_afterAdvance (m : Mmu) (n : Nat) : (m.afterAdvance n).wf = m.wf := by cases m <;> rfl

theorem Mmu.wf_afterAccesses {m : Mmu} (es : List BusEvent) (h : m.wf = true) : (m.afterAccesses es).wf = true := by
  induction es generalizing m with
  | nil => exact h
  | cons e es ih =>
    cases e with
    | read a v => exact ih (by simpa using h)
    | write a v => exact ih (Mmu.wf_afterWrite a v h)

theorem Mmu.wf_afterAccesses_reads (m : Mmu) {es : List BusEvent} (hes : ∀ e ∈ es, ∃ a v, e = BusEvent.read a v) :
    (m.afterAccesses es).wf = m.wf := by
  induction es generalizing m with
  | nil => rfl
  | cons e es ih =>
    obtain ⟨a, v, rfl⟩ := hes _ (List.mem_cons_self ..)
    rw [Mmu.afterAccesses, ih _ fun e he => hes e (List.mem_cons_of_mem _ he)]
    exact Mmu.wf_afterRead ..

/-! ### Reads through the state, with the simulator MMU -/

theorem State.peek_noteRead {s : State} (h : s.mmu.isSimulator = true) (x y : Word) : (s.noteRead x).peek y = s.peek y :=
  State.peek_eq_of_mmu (Mmu.afterRead_of_simulator h x) y

theorem State.peek_memWrite {s : State} (h : s.mmu.isSimulator = true) (x y : Word) (v : Byte) :
    (s.memWrite x v).peek y = if y = x then v else s.peek y := Mmu.answer_afterWrite h x y v

theorem State.peek_memWrite_same {s : State} (h : s.mmu.isSimulator = true) (x : Word) (v : Byte) : (s.memWrite x v).peek x = v := by
  simp [State.peek_memWrite h]

theorem State.peek_memWrite_other {s : State} (h : s.mmu.isSimulator = true) {x y : Word} (v : Byte) (hy : y ≠ x) :
    (s.memWrite x v).peek y = s.peek y := by simp [State.peek_memWrite h, hy]

theorem State.peek_hostWrite {s : State} (h : s.mmu.isSimulator = true) (x y : Word) (v : Byte) :
    (s.hostWrite x v).peek y = if y = x then v else s.peek y := by
  unfold State.peek
  rw [State.hostWrite_mmu, Mmu.afterDeviceWrite_of_simulator h, Mmu.answer_afterWrite h]

theorem State.peek_requestInterrupt {s : State} (h : s.mmu.isSimulator = true) (k : Source) (y : Word) :
    (s.requestInterrupt k).peek y = if y = Config.ifAddr then s.peek Config.ifAddr ||| Config.sourceMask k else s.peek y := by
  unfold State.peek
  rw [State.requestInterrupt_mmu, Mmu.afterRequest_of_simulator h, Mmu.answer_afterWrite h]

theorem State.peek_advanceDevices {s : State} (h : s.mmu.isSimulator = true) (n : Nat) (y : Word) :
    (s.advanceDevices n).peek y = s.peek y := State.peek_eq_of_mmu (Mmu.afterAdvance_of_simulator h n) y

/-! ### Byte order (R7, R55) -/

@[simp] theorem lowByte_joinBytes (hi lo : Byte) : lowByte (joinBytes hi lo) = lo := by
  unfold lowByte joinBytes
  apply BitVec.eq_of_getLsbD_eq
  intro i h
  rw [BitVec.getLsbD_extractLsb', BitVec.getLsbD_append]
  simp [h]

@[simp] theorem highByte_joinBytes (hi lo : Byte) : highByte (joinBytes hi lo) = hi := by
  unfold highByte joinBytes
  apply BitVec.eq_of_getLsbD_eq
  intro i h
  rw [BitVec.getLsbD_extractLsb', BitVec.getLsbD_append]
  simp [h]

@[simp] theorem joinBytes_high_low (v : Word) : joinBytes (highByte v) (lowByte v) = v := by
  unfold joinBytes highByte lowByte
  apply BitVec.eq_of_getLsbD_eq
  intro i hi
  rw [BitVec.getLsbD_append]
  by_cases h : i < 8
  · simp [h]
  · have h2 : i - 8 < 8 := by omega
    have h3 : 8 + (i - 8) = i := by omega
    simp [h, h2, h3]

end Sys2Proof.Machine
end

