-- ==== Sys2Proof/Laws/Operands.lean ====
section
/-! SUPPORT. The laws of the register pairs (10_state.md rule R22): a pair read after it is written, and the halves a pair write leaves. -/

namespace Sys2Proof.Machine

@[simp] theorem State.pair_setPair (s : State) (p : Pair) (v : Word) : (s.setPair p v).pair p = v := by
  cases p <;> simp [State.setPair, State.pair]

theorem State.setPair_sp (s : State) (p : Pair) (v : Word) : (s.setPair p v).sp = if p = .sp then v else s.sp := by
  cases p <;> rfl

/-- The registers other than a pair's halves keep their values. -/
theorem State.reg_setPair (s : State) (p : Pair) (v : Word) (r : Reg8) :
    (s.setPair p v).reg r =
      match p, r with
      | .bc, .b => highByte v
      | .bc, .c => lowByte v
      | .de, .d => highByte v
      | .de, .e => lowByte v
      | .hl, .h => highByte v
      | .hl, .l => lowByte v
      | _, _ => s.reg r := by
  cases p <;> cases r <;> rfl

/-- Memory apart, what a pair reads depends on its halves alone. -/
theorem State.pair_eq_of_reg {s t : State} (h : ∀ r, t.reg r = s.reg r) (hsp : t.sp = s.sp) (p : Pair) : t.pair p = s.pair p := by
  have hb := h .b; have hc := h .c; have hd := h .d; have he := h .e; have hh := h .h; have hl := h .l
  simp only [State.reg] at hb hc hd he hh hl
  cases p <;> simp [State.pair, hb, hc, hd, he, hh, hl, hsp]

@[simp] theorem State.pair_done (s : State) (n : Nat) (p : Pair) : (s.done n).pair p = s.pair p := by cases p <;> rfl
@[simp] theorem State.pair_setFlags (s : State) (g : Flags) (p : Pair) : (s.setFlags g).pair p = s.pair p := by cases p <;> rfl
@[simp] theorem State.pair_noteRead (s : State) (x : Word) (p : Pair) : (s.noteRead x).pair p = s.pair p := by cases p <;> rfl
@[simp] theorem State.pair_memWrite (s : State) (x : Word) (v : Byte) (p : Pair) : (s.memWrite x v).pair p = s.pair p := by
  cases p <;> rfl

/-! ### The high page (R61, R95) -/

/-- `0xFF00 + zext_16(n)` is the byte `n` of page 0xFF. -/
theorem highPage_add (n : Byte) : Config.highPage + zext16 n = joinBytes 0xFF#8 n := by revert n; decide

/-! ### The stack bytes -/

/-- What the simulator's memory reads as after `push16(v)` (R122): the two bytes, and every other byte as before. -/
theorem State.peek_push16 {s : State} (h : s.mmu.isSimulator = true) (v x : Word) :
    (s.push16 v).peek x = if x = s.sp - 2#16 then lowByte v else if x = s.sp - 1#16 then highByte v else s.peek x := by
  show ((s.memWrite (s.sp - 1#16) (highByte v)).memWrite (s.sp - 2#16) (lowByte v)).peek x = _
  rw [State.peek_memWrite (by simpa using h), State.peek_memWrite h]

theorem word_sub_one_ne_sub_two (x : Word) : x - 1#16 ≠ x - 2#16 := by
  intro h; bv_omega

theorem State.peek_push16_high {s : State} (h : s.mmu.isSimulator = true) (v : Word) : (s.push16 v).peek (s.sp - 1#16) = highByte v := by
  rw [State.peek_push16 h, if_neg (word_sub_one_ne_sub_two s.sp), if_pos rfl]

theorem State.peek_push16_low {s : State} (h : s.mmu.isSimulator = true) (v : Word) : (s.push16 v).peek (s.sp - 2#16) = lowByte v := by
  rw [State.peek_push16 h, if_pos rfl]

theorem State.peek_push16_other {s : State} (h : s.mmu.isSimulator = true) (v : Word) {x : Word} (h1 : x ≠ s.sp - 1#16)
    (h2 : x ≠ s.sp - 2#16) : (s.push16 v).peek x = s.peek x := by rw [State.peek_push16 h, if_neg h2, if_neg h1]

/-- With the simulator MMU the second read of a pop answers as the first would (R123). -/
theorem State.topOfStack_of_simulator {s : State} (h : s.mmu.isSimulator = true) :
    s.topOfStack = joinBytes (s.peek (s.sp + 1)) (s.peek s.sp) := by
  unfold State.topOfStack; rw [State.peek_noteRead h]

theorem State.peek_afterPop {s : State} (h : s.mmu.isSimulator = true) (x : Word) : s.afterPop.peek x = s.peek x := by
  refine State.peek_eq_of_mmu ?_ x
  rw [State.afterPop_mmu, Mmu.afterRead_of_simulator h, Mmu.afterRead_of_simulator h]

end Sys2Proof.Machine
end

