-- ==== Sys2Proof/Laws/Claims.lean ====
section
/-! SUPPORT. The small laws of the shapes that claims are made of (Safety.lean): `Accesses`, which composes one access after another, `Stored`
after a write, and the frame of the updates that write neither a register nor memory. -/

namespace Sys2Proof.Machine

/-! ### `Accesses` -/

theorem Accesses.refl (s : State) : Accesses s s [] := ⟨by simp, rfl⟩

theorem Accesses.trans {s t u : State} {es fs : List BusEvent} (h : Accesses s t es) (h' : Accesses t u fs) : Accesses s u (es ++ fs) :=
  ⟨by rw [h'.1, h.1, List.append_assoc], by rw [h'.2, h.2, Mmu.afterAccesses_append]⟩

theorem Accesses.noteRead {s t : State} {es : List BusEvent} (h : Accesses s t es) (a : Word) :
    Accesses s (t.noteRead a) (es ++ [.read a (t.peek a)]) := h.trans ⟨rfl, rfl⟩

theorem Accesses.memWrite {s t : State} {es : List BusEvent} (h : Accesses s t es) (a : Word) (v : Byte) :
    Accesses s (t.memWrite a v) (es ++ [.write a v]) := h.trans ⟨rfl, rfl⟩

/-- An update that writes neither `trace` nor `mmu` makes no access. -/
theorem Accesses.congr {s t u : State} {es : List BusEvent} (h : Accesses s t es) (ht : u.trace = t.trace) (hm : u.mmu = t.mmu) :
    Accesses s u es := ⟨ht.trans h.1, hm.trans h.2⟩

/-- Accesses never change what kind of MMU it is, and keep its canonical form. -/
theorem Accesses.isSimulator {s t : State} {es : List BusEvent} (h : Accesses s t es) : t.mmu.isSimulator = s.mmu.isSimulator := by
  rw [h.2]; exact Mmu.isSimulator_afterAccesses ..

theorem Accesses.wf {s t : State} {es : List BusEvent} (h : Accesses s t es) (hs : s.mmu.wf = true) : t.mmu.wf = true := by
  rw [h.2]; exact Mmu.wf_afterAccesses es hs

/-! ### `Stored` -/

theorem stored_memWrite (s : State) (a : Word) (v : Byte) : Stored (s.memWrite a v) a v := fun h =>
  State.peek_memWrite_same (by simpa using h) a v

theorem Stored.congr {s t : State} {a : Word} {v : Byte} (h : Stored s a v) (hm : t.mmu = s.mmu) : Stored t a v := fun ht =>
  (State.peek_eq_of_mmu hm a).trans (h (by rw [← hm]; exact ht))

/-! ### The frame -/

theorem KeepsAllBut.refl (w : Writes) (s : State) : KeepsAllBut w s s := by simp [KeepsAllBut]

/-- Reads write nothing. -/
theorem KeepsAllBut.noteRead {w : Writes} {s t : State} (h : KeepsAllBut w s t) (hk : t.mmu.isSimulator = s.mmu.isSimulator) (a : Word) :
    KeepsAllBut w s (t.noteRead a) := by
  obtain ⟨h1, h2, h3, h4, h5, h6, h7, h8, h9, h10, h11⟩ := h
  exact ⟨fun r hr => (State.reg_noteRead t a r).trans (h1 r hr), h2, h3, h4, h5, h6,
    fun hs x hx => (State.peek_noteRead (hk.trans hs) a x).trans (h7 hs x hx), h8, h9, h10, h11⟩

/-- What an effect returns is no register and no byte. -/
theorem KeepsAllBut.done {w : Writes} {s t : State} (h : KeepsAllBut w s t) (n : Nat) : KeepsAllBut w s (t.done n) := h

end Sys2Proof.Machine
end

