-- ==== Sys2Proof/Laws/Families.lean ====
section
/-! SUPPORT. The 512 rows by family: an eliminator with one case per family of rows (Syntax.lean's family functions) and per single
row, so that a statement over all instructions needs 70 cases and not 512; and what `exec` does with each family, as one call of
the family's shared operation. -/

namespace Sys2Proof

/-- One case per family of rows and per single row. -/
theorem Instr.byFamily {motive : Instr → Prop}
    (ldPairImm : ∀ (p : Pair) (n : Word), motive (.ldPairImm p n))
    (incPair : ∀ (p : Pair), motive (.incPair p))
    (incReg : ∀ (r : Reg8), motive (.incReg r))
    (decReg : ∀ (r : Reg8), motive (.decReg r))
    (ldRegImm : ∀ (r : Reg8) (n : Byte), motive (.ldRegImm r n))
    (addHlPair : ∀ (p : Pair), motive (.addHlPair p))
    (decPair : ∀ (p : Pair), motive (.decPair p))
    (jrIf : ∀ (cc : Cond) (n : Byte), motive (.jrIf cc n))
    (ldRegReg : ∀ (r : Reg8) (r' : Reg8), motive (.ldRegReg r r'))
    (ldRegInd : ∀ (r : Reg8), motive (.ldRegInd r))
    (ldIndReg : ∀ (r : Reg8), motive (.ldIndReg r))
    (aluReg : ∀ (op : AluOp) (r : Reg8), motive (.aluReg op r))
    (aluInd : ∀ (op : AluOp), motive (.aluInd op))
    (retIf : ∀ (cc : Cond), motive (.retIf cc))
    (popPair : ∀ (p : StackPair), motive (.popPair p))
    (jpIf : ∀ (cc : Cond) (n : Word), motive (.jpIf cc n))
    (callIf : ∀ (cc : Cond) (n : Word), motive (.callIf cc n))
    (pushPair : ∀ (p : StackPair), motive (.pushPair p))
    (aluImm : ∀ (op : AluOp) (n : Byte), motive (.aluImm op n))
    (rst : ∀ (t : RstTarget), motive (.rst t))
    (illegal : ∀ (x : IllegalByte), motive (.illegal x))
    (shiftReg : ∀ (op : ShiftOp) (r : Reg8), motive (.shiftReg op r))
    (shiftInd : ∀ (op : ShiftOp), motive (.shiftInd op))
    (bitReg : ∀ (b : BitIndex) (r : Reg8), motive (.bitReg b r))
    (bitInd : ∀ (b : BitIndex), motive (.bitInd b))
    (resReg : ∀ (b : BitIndex) (r : Reg8), motive (.resReg b r))
    (resInd : ∀ (b : BitIndex), motive (.resInd b))
    (setReg : ∀ (b : BitIndex) (r : Reg8), motive (.setReg b r))
    (setInd : ∀ (b : BitIndex), motive (.setInd b))
    (nop : motive .nop)
    (ldIndBcA : motive .ldIndBcA)
    (rlca : motive .rlca)
    (ldIndN16Sp : ∀ (n : Word), motive (.ldIndN16Sp n))
    (ldAIndBc : motive .ldAIndBc)
    (rrca : motive .rrca)
    (stop : ∀ (n : Byte), motive (.stop n))
    (ldIndDeA : motive .ldIndDeA)
    (rla : motive .rla)
    (jrE8 : ∀ (e : Byte), motive (.jrE8 e))
    (ldAIndDe : motive .ldAIndDe)
    (rra : motive .rra)
    (ldIndHliA : motive .ldIndHliA)
    (daa : motive .daa)
    (ldAIndHli : motive .ldAIndHli)
    (cpl : motive .cpl)
    (ldIndHldA : motive .ldIndHldA)
    (incIndHl : motive .incIndHl)
    (decIndHl : motive .decIndHl)
    (ldIndHlN8 : ∀ (n : Byte), motive (.ldIndHlN8 n))
    (scf : motive .scf)
    (ldAIndHld : motive .ldAIndHld)
    (ccf : motive .ccf)
    (halt : motive .halt)
    (jpN16 : ∀ (n : Word), motive (.jpN16 n))
    (ret : motive .ret)
    (prefixCb : motive .prefixCb)
    (callN16 : ∀ (n : Word), motive (.callN16 n))
    (reti : motive .reti)
    (ldhIndN8A : ∀ (n : Byte), motive (.ldhIndN8A n))
    (ldIndCA : motive .ldIndCA)
    (addSpE8 : ∀ (e : Byte), motive (.addSpE8 e))
    (jpHl : motive .jpHl)
    (ldIndN16A : ∀ (n : Word), motive (.ldIndN16A n))
    (ldhAIndN8 : ∀ (n : Byte), motive (.ldhAIndN8 n))
    (ldAIndC : motive .ldAIndC)
    (di : motive .di)
    (ldHlSpE8 : ∀ (e : Byte), motive (.ldHlSpE8 e))
    (ldSpHl : motive .ldSpHl)
    (ldAIndN16 : ∀ (n : Word), motive (.ldAIndN16 n))
    (ei : motive .ei)
    (i : Instr) : motive i := by
  cases i with
  | ldBcN16 n => exact ldPairImm .bc n
  | ldBN8 n => exact ldRegImm .b n
  | ldIndN16Sp n => exact ldIndN16Sp n
  | ldCN8 n => exact ldRegImm .c n
  | stop n => exact stop n
  | ldDeN16 n => exact ldPairImm .de n
  | ldDN8 n => exact ldRegImm .d n
  | jrE8 e => exact jrE8 e
  | ldEN8 n => exact ldRegImm .e n
  | jrNzE8 e => exact jrIf .nz e
  | ldHlN16 n => exact ldPairImm .hl n
  | ldHN8 n => exact ldRegImm .h n
  | jrZE8 e => exact jrIf .z e
  | ldLN8 n => exact ldRegImm .l n
  | jrNcE8 e => exact jrIf .nc e
  | ldSpN16 n => exact ldPairImm .sp n
  | ldIndHlN8 n => exact ldIndHlN8 n
  | jrCE8 e => exact jrIf .c e
  | ldAN8 n => exact ldRegImm .a n
  | jpNzN16 n => exact jpIf .nz n
  | jpN16 n => exact jpN16 n
  | callNzN16 n => exact callIf .nz n
  | addAN8 n => exact aluImm .add n
  | jpZN16 n => exact jpIf .z n
  | callZN16 n => exact callIf .z n
  | callN16 n => exact callN16 n
  | adcAN8 n => exact aluImm .adc n
  | jpNcN16 n => exact jpIf .nc n
  | callNcN16 n => exact callIf .nc n
  | subN8 n => exact aluImm .sub n
  | jpCN16 n => exact jpIf .c n
  | callCN16 n => exact callIf .c n
  | sbcAN8 n => exact aluImm .sbc n
  | ldhIndN8A n => exact ldhIndN8A n
  | andN8 n => exact aluImm .and n
  | addSpE8 e => exact addSpE8 e
  | ldIndN16A n => exact ldIndN16A n
  | xorN8 n => exact aluImm .xor n
  | ldhAIndN8 n => exact ldhAIndN8 n
  | orN8 n => exact aluImm .or n
  | ldHlSpE8 e => exact ldHlSpE8 e
  | ldAIndN16 n => exact ldAIndN16 n
  | cpN8 n => exact aluImm .cp n
  | nop => exact nop
  | ldIndBcA => exact ldIndBcA
  | incBc => exact incPair .bc
  | incB => exact incReg .b
  | decB => exact decReg .b
  | rlca => exact rlca
  | addHlBc => exact addHlPair .bc
  | ldAIndBc => exact ldAIndBc
  | decBc => exact decPair .bc
  | incC => exact incReg .c
  | decC => exact decReg .c
  | rrca => exact rrca
  | ldIndDeA => exact ldIndDeA
  | incDe => exact incPair .de
  | incD => exact incReg .d
  | decD => exact decReg .d
  | rla => exact rla
  | addHlDe => exact addHlPair .de
  | ldAIndDe => exact ldAIndDe
  | decDe => exact decPair .de
  | incE => exact incReg .e
  | decE => exact decReg .e
  | rra => exact rra
  | ldIndHliA => exact ldIndHliA
  | incHl => exact incPair .hl
  | incH => exact incReg .h
  | decH => exact decReg .h
  | daa => exact daa
  | addHlHl => exact addHlPair .hl
  | ldAIndHli => exact ldAIndHli
  | decHl => exact decPair .hl
  | incL => exact incReg .l
  | decL => exact decReg .l
  | cpl => exact cpl
  | ldIndHldA => exact ldIndHldA
  | incSp => exact incPair .sp
  | incIndHl => exact incIndHl
  | decIndHl => exact decIndHl
  | scf => exact scf
  | addHlSp => exact addHlPair .sp
  | ldAIndHld => exact ldAIndHld
  | decSp => exact decPair .sp
  | incA => exact incReg .a
  | decA => exact decReg .a
  | ccf => exact ccf
  | ldBB => exact ldRegReg .b .b
  | ldBC => exact ldRegReg .b .c
  | ldBD => exact ldRegReg .b .d
  | ldBE => exact ldRegReg .b .e
  | ldBH => exact ldRegReg .b .h
  | ldBL => exact ldRegReg .b .l
  | ldBIndHl => exact ldRegInd .b
  | ldBA => exact ldRegReg .b .a
  | ldCB => exact ldRegReg .c .b
  | ldCC => exact ldRegReg .c .c
  | ldCD => exact ldRegReg .c .d
  | ldCE => exact ldRegReg .c .e
  | ldCH => exact ldRegReg .c .h
  | ldCL => exact ldRegReg .c .l
  | ldCIndHl => exact ldRegInd .c
  | ldCA => exact ldRegReg .c .a
  | ldDB => exact ldRegReg .d .b
  | ldDC => exact ldRegReg .d .c
  | ldDD => exact ldRegReg .d .d
  | ldDE => exact ldRegReg .d .e
  | ldDH => exact ldRegReg .d .h
  | ldDL => exact ldRegReg .d .l
  | ldDIndHl => exact ldRegInd .d
  | ldDA => exact ldRegReg .d .a
  | ldEB => exact ldRegReg .e .b
  | ldEC => exact ldRegReg .e .c
  | ldED => exact ldRegReg .e .d
  | ldEE => exact ldRegReg .e .e
  | ldEH => exact ldRegReg .e .h
  | ldEL => exact ldRegReg .e .l
  | ldEIndHl => exact ldRegInd .e
  | ldEA => exact ldRegReg .e .a
  | ldHB => exact ldRegReg .h .b
  | ldHC => exact ldRegReg .h .c
  | ldHD => exact ldRegReg .h .d
  | ldHE => exact ldRegReg .h .e
  | ldHH => exact ldRegReg .h .h
  | ldHL => exact ldRegReg .h .l
  | ldHIndHl => exact ldRegInd .h
  | ldHA => exact ldRegReg .h .a
  | ldLB => exact ldRegReg .l .b
  | ldLC => exact ldRegReg .l .c
  | ldLD => exact ldRegReg .l .d
  | ldLE => exact ldRegReg .l .e
  | ldLH => exact ldRegReg .l .h
  | ldLL => exact ldRegReg .l .l
  | ldLIndHl => exact ldRegInd .l
  | ldLA => exact ldRegReg .l .a
  | ldIndHlB => exact ldIndReg .b
  | ldIndHlC => exact ldIndReg .c
  | ldIndHlD => exact ldIndReg .d
  | ldIndHlE => exact ldIndReg .e
  | ldIndHlH => exact ldIndReg .h
  | ldIndHlL => exact ldIndReg .l
  | halt => exact halt
  | ldIndHlA => exact ldIndReg .a
  | ldAB => exact ldRegReg .a .b
  | ldAC => exact ldRegReg .a .c
  | ldAD => exact ldRegReg .a .d
  | ldAE => exact ldRegReg .a .e
  | ldAH => exact ldRegReg .a .h
  | ldAL => exact ldRegReg .a .l
  | ldAIndHl => exact ldRegInd .a
  | ldAA => exact ldRegReg .a .a
  | addAB => exact aluReg .add .b
  | addAC => exact aluReg .add .c
  | addAD => exact aluReg .add .d
  | addAE => exact aluReg .add .e
  | addAH => exact aluReg .add .h
  | addAL => exact aluReg .add .l
  | addAIndHl => exact aluInd .add
  | addAA => exact aluReg .add .a
  | adcAB => exact aluReg .adc .b
  | adcAC => exact aluReg .adc .c
  | adcAD => exact aluReg .adc .d
  | adcAE => exact aluReg .adc .e
  | adcAH => exact aluReg .adc .h
  | adcAL => exact aluReg .adc .l
  | adcAIndHl => exact aluInd .adc
  | adcAA => exact aluReg .adc .a
  | subB => exact aluReg .sub .b
  | subC => exact aluReg .sub .c
  | subD => exact aluReg .sub .d
  | subE => exact aluReg .sub .e
  | subH => exact aluReg .sub .h
  | subL => exact aluReg .sub .l
  | subIndHl => exact aluInd .sub
  | subA => exact aluReg .sub .a
  | sbcAB => exact aluReg .sbc .b
  | sbcAC => exact aluReg .sbc .c
  | sbcAD => exact aluReg .sbc .d
  | sbcAE => exact aluReg .sbc .e
  | sbcAH => exact aluReg .sbc .h
  | sbcAL => exact aluReg .sbc .l
  | sbcAIndHl => exact aluInd .sbc
  | sbcAA => exact aluReg .sbc .a
  | andB => exact aluReg .and .b
  | andC => exact aluReg .and .c
  | andD => exact aluReg .and .d
  | andE => exact aluReg .and .e
  | andH => exact aluReg .and .h
  | andL => exact aluReg .and .l
  | andIndHl => exact aluInd .and
  | andA => exact aluReg .and .a
  | xorB => exact aluReg .xor .b
  | xorC => exact aluReg .xor .c
  | xorD => exact aluReg .xor .d
  | xorE => exact aluReg .xor .e
  | xorH => exact aluReg .xor .h
  | xorL => exact aluReg .xor .l
  | xorIndHl => exact aluInd .xor
  | xorA => exact aluReg .xor .a
  | orB => exact aluReg .or .b
  | orC => exact aluReg .or .c
  | orD => exact aluReg .or .d
  | orE => exact aluReg .or .e
  | orH => exact aluReg .or .h
  | orL => exact aluReg .or .l
  | orIndHl => exact aluInd .or
  | orA => exact aluReg .or .a
  | cpB => exact aluReg .cp .b
  | cpC => exact aluReg .cp .c
  | cpD => exact aluReg .cp .d
  | cpE => exact aluReg .cp .e
  | cpH => exact aluReg .cp .h
  | cpL => exact aluReg .cp .l
  | cpIndHl => exact aluInd .cp
  | cpA => exact aluReg .cp .a
  | retNz => exact retIf .nz
  | popBc => exact popPair .bc
  | pushBc => exact pushPair .bc
  | rst00 => exact rst .t00
  | retZ => exact retIf .z
  | ret => exact ret
  | prefixCb => exact prefixCb
  | rst08 => exact rst .t08
  | retNc => exact retIf .nc
  | popDe => exact popPair .de
  | illegalD3 => exact illegal .xD3
  | pushDe => exact pushPair .de
  | rst10 => exact rst .t10
  | retC => exact retIf .c
  | reti => exact reti
  | illegalDB => exact illegal .xDB
  | illegalDD => exact illegal .xDD
  | rst18 => exact rst .t18
  | popHl => exact popPair .hl
  | ldIndCA => exact ldIndCA
  | illegalE3 => exact illegal .xE3
  | illegalE4 => exact illegal .xE4
  | pushHl => exact pushPair .hl
  | rst20 => exact rst .t20
  | jpHl => exact jpHl
  | illegalEB => exact illegal .xEB
  | illegalEC => exact illegal .xEC
  | illegalED => exact illegal .xED
  | rst28 => exact rst .t28
  | popAf => exact popPair .af
  | ldAIndC => exact ldAIndC
  | di => exact di
  | illegalF4 => exact illegal .xF4
  | pushAf => exact pushPair .af
  | rst30 => exact rst .t30
  | ldSpHl => exact ldSpHl
  | ei => exact ei
  | illegalFC => exact illegal .xFC
  | illegalFD => exact illegal .xFD
  | rst38 => exact rst .t38
  | rlcB => exact shiftReg .rlc .b
  | rlcC => exact shiftReg .rlc .c
  | rlcD => exact shiftReg .rlc .d
  | rlcE => exact shiftReg .rlc .e
  | rlcH => exact shiftReg .rlc .h
  | rlcL => exact shiftReg .rlc .l
  | rlcIndHl => exact shiftInd .rlc
  | rlcA => exact shiftReg .rlc .a
  | rrcB => exact shiftReg .rrc .b
  | rrcC => exact shiftReg .rrc .c
  | rrcD => exact shiftReg .rrc .d
  | rrcE => exact shiftReg .rrc .e
  | rrcH => exact shiftReg .rrc .h
  | rrcL => exact shiftReg .rrc .l
  | rrcIndHl => exact shiftInd .rrc
  | rrcA => exact shiftReg .rrc .a
  | rlB => exact shiftReg .rl .b
  | rlC => exact shiftReg .rl .c
  | rlD => exact shiftReg .rl .d
  | rlE => exact shiftReg .rl .e
  | rlH => exact shiftReg .rl .h
  | rlL => exact shiftReg .rl .l
  | rlIndHl => exact shiftInd .rl
  | rlA => exact shiftReg .rl .a
  | rrB => exact shiftReg .rr .b
  | rrC => exact shiftReg .rr .c
  | rrD => exact shiftReg .rr .d
  | rrE => exact shiftReg .rr .e
  | rrH => exact shiftReg .rr .h
  | rrL => exact shiftReg .rr .l
  | rrIndHl => exact shiftInd .rr
  | rrA => exact shiftReg .rr .a
  | slaB => exact shiftReg .sla .b
  | slaC => exact shiftReg .sla .c
  | slaD => exact shiftReg .sla .d
  | slaE => exact shiftReg .sla .e
  | slaH => exact shiftReg .sla .h
  | slaL => exact shiftReg .sla .l
  | slaIndHl => exact shiftInd .sla
  | slaA => exact shiftReg .sla .a
  | sraB => exact shiftReg .sra .b
  | sraC => exact shiftReg .sra .c
  | sraD => exact shiftReg .sra .d
  | sraE => exact shiftReg .sra .e
  | sraH => exact shiftReg .sra .h
  | sraL => exact shiftReg .sra .l
  | sraIndHl => exact shiftInd .sra
  | sraA => exact shiftReg .sra .a
  | swapB => exact shiftReg .swap .b
  | swapC => exact shiftReg .swap .c
  | swapD => exact shiftReg .swap .d
  | swapE => exact shiftReg .swap .e
  | swapH => exact shiftReg .swap .h
  | swapL => exact shiftReg .swap .l
  | swapIndHl => exact shiftInd .swap
  | swapA => exact shiftReg .swap .a
  | srlB => exact shiftReg .srl .b
  | srlC => exact shiftReg .srl .c
  | srlD => exact shiftReg .srl .d
  | srlE => exact shiftReg .srl .e
  | srlH => exact shiftReg .srl .h
  | srlL => exact shiftReg .srl .l
  | srlIndHl => exact shiftInd .srl
  | srlA => exact shiftReg .srl .a
  | bit0B => exact bitReg .b0 .b
  | bit0C => exact bitReg .b0 .c
  | bit0D => exact bitReg .b0 .d
  | bit0E => exact bitReg .b0 .e
  | bit0H => exact bitReg .b0 .h
  | bit0L => exact bitReg .b0 .l
  | bit0IndHl => exact bitInd .b0
  | bit0A => exact bitReg .b0 .a
  | bit1B => exact bitReg .b1 .b
  | bit1C => exact bitReg .b1 .c
  | bit1D => exact bitReg .b1 .d
  | bit1E => exact bitReg .b1 .e
  | bit1H => exact bitReg .b1 .h
  | bit1L => exact bitReg .b1 .l
  | bit1IndHl => exact bitInd .b1
  | bit1A => exact bitReg .b1 .a
  | bit2B => exact bitReg .b2 .b
  | bit2C => exact bitReg .b2 .c
  | bit2D => exact bitReg .b2 .d
  | bit2E => exact bitReg .b2 .e
  | bit2H => exact bitReg .b2 .h
  | bit2L => exact bitReg .b2 .l
  | bit2IndHl => exact bitInd .b2
  | bit2A => exact bitReg .b2 .a
  | bit3B => exact bitReg .b3 .b
  | bit3C => exact bitReg .b3 .c
  | bit3D => exact bitReg .b3 .d
  | bit3E => exact bitReg .b3 .e
  | bit3H => exact bitReg .b3 .h
  | bit3L => exact bitReg .b3 .l
  | bit3IndHl => exact bitInd .b3
  | bit3A => exact bitReg .b3 .a
  | bit4B => exact bitReg .b4 .b
  | bit4C => exact bitReg .b4 .c
  | bit4D => exact bitReg .b4 .d
  | bit4E => exact bitReg .b4 .e
  | bit4H => exact bitReg .b4 .h
  | bit4L => exact bitReg .b4 .l
  | bit4IndHl => exact bitInd .b4
  | bit4A => exact bitReg .b4 .a
  | bit5B => exact bitReg .b5 .b
  | bit5C => exact bitReg .b5 .c
  | bit5D => exact bitReg .b5 .d
  | bit5E => exact bitReg .b5 .e
  | bit5H => exact bitReg .b5 .h
  | bit5L => exact bitReg .b5 .l
  | bit5IndHl => exact bitInd .b5
  | bit5A => exact bitReg .b5 .a
  | bit6B => exact bitReg .b6 .b
  | bit6C => exact bitReg .b6 .c
  | bit6D => exact bitReg .b6 .d
  | bit6E => exact bitReg .b6 .e
  | bit6H => exact bitReg .b6 .h
  | bit6L => exact bitReg .b6 .l
  | bit6IndHl => exact bitInd .b6
  | bit6A => exact bitReg .b6 .a
  | bit7B => exact bitReg .b7 .b
  | bit7C => exact bitReg .b7 .c
  | bit7D => exact bitReg .b7 .d
  | bit7E => exact bitReg .b7 .e
  | bit7H => exact bitReg .b7 .h
  | bit7L => exact bitReg .b7 .l
  | bit7IndHl => exact bitInd .b7
  | bit7A => exact bitReg .b7 .a
  | res0B => exact resReg .b0 .b
  | res0C => exact resReg .b0 .c
  | res0D => exact resReg .b0 .d
  | res0E => exact resReg .b0 .e
  | res0H => exact resReg .b0 .h
  | res0L => exact resReg .b0 .l
  | res0IndHl => exact resInd .b0
  | res0A => exact resReg .b0 .a
  | res1B => exact resReg .b1 .b
  | res1C => exact resReg .b1 .c
  | res1D => exact resReg .b1 .d
  | res1E => exact resReg .b1 .e
  | res1H => exact resReg .b1 .h
  | res1L => exact resReg .b1 .l
  | res1IndHl => exact resInd .b1
  | res1A => exact resReg .b1 .a
  | res2B => exact resReg .b2 .b
  | res2C => exact resReg .b2 .c
  | res2D => exact resReg .b2 .d
  | res2E => exact resReg .b2 .e
  | res2H => exact resReg .b2 .h
  | res2L => exact resReg .b2 .l
  | res2IndHl => exact resInd .b2
  | res2A => exact resReg .b2 .a
  | res3B => exact resReg .b3 .b
  | res3C => exact resReg .b3 .c
  | res3D => exact resReg .b3 .d
  | res3E => exact resReg .b3 .e
  | res3H => exact resReg .b3 .h
  | res3L => exact resReg .b3 .l
  | res3IndHl => exact resInd .b3
  | res3A => exact resReg .b3 .a
  | res4B => exact resReg .b4 .b
  | res4C => exact resReg .b4 .c
  | res4D => exact resReg .b4 .d
  | res4E => exact resReg .b4 .e
  | res4H => exact resReg .b4 .h
  | res4L => exact resReg .b4 .l
  | res4IndHl => exact resInd .b4
  | res4A => exact resReg .b4 .a
  | res5B => exact resReg .b5 .b
  | res5C => exact resReg .b5 .c
  | res5D => exact resReg .b5 .d
  | res5E => exact resReg .b5 .e
  | res5H => exact resReg .b5 .h
  | res5L => exact resReg .b5 .l
  | res5IndHl => exact resInd .b5
  | res5A => exact resReg .b5 .a
  | res6B => exact resReg .b6 .b
  | res6C => exact resReg .b6 .c
  | res6D => exact resReg .b6 .d
  | res6E => exact resReg .b6 .e
  | res6H => exact resReg .b6 .h
  | res6L => exact resReg .b6 .l
  | res6IndHl => exact resInd .b6
  | res6A => exact resReg .b6 .a
  | res7B => exact resReg .b7 .b
  | res7C => exact resReg .b7 .c
  | res7D => exact resReg .b7 .d
  | res7E => exact resReg .b7 .e
  | res7H => exact resReg .b7 .h
  | res7L => exact resReg .b7 .l
  | res7IndHl => exact resInd .b7
  | res7A => exact resReg .b7 .a
  | set0B => exact setReg .b0 .b
  | set0C => exact setReg .b0 .c
  | set0D => exact setReg .b0 .d
  | set0E => exact setReg .b0 .e
  | set0H => exact setReg .b0 .h
  | set0L => exact setReg .b0 .l
  | set0IndHl => exact setInd .b0
  | set0A => exact setReg .b0 .a
  | set1B => exact setReg .b1 .b
  | set1C => exact setReg .b1 .c
  | set1D => exact setReg .b1 .d
  | set1E => exact setReg .b1 .e
  | set1H => exact setReg .b1 .h
  | set1L => exact setReg .b1 .l
  | set1IndHl => exact setInd .b1
  | set1A => exact setReg .b1 .a
  | set2B => exact setReg .b2 .b
  | set2C => exact setReg .b2 .c
  | set2D => exact setReg .b2 .d
  | set2E => exact setReg .b2 .e
  | set2H => exact setReg .b2 .h
  | set2L => exact setReg .b2 .l
  | set2IndHl => exact setInd .b2
  | set2A => exact setReg .b2 .a
  | set3B => exact setReg .b3 .b
  | set3C => exact setReg .b3 .c
  | set3D => exact setReg .b3 .d
  | set3E => exact setReg .b3 .e
  | set3H => exact setReg .b3 .h
  | set3L => exact setReg .b3 .l
  | set3IndHl => exact setInd .b3
  | set3A => exact setReg .b3 .a
  | set4B => exact setReg .b4 .b
  | set4C => exact setReg .b4 .c
  | set4D => exact setReg .b4 .d
  | set4E => exact setReg .b4 .e
  | set4H => exact setReg .b4 .h
  | set4L => exact setReg .b4 .l
  | set4IndHl => exact setInd .b4
  | set4A => exact setReg .b4 .a
  | set5B => exact setReg .b5 .b
  | set5C => exact setReg .b5 .c
  | set5D => exact setReg .b5 .d
  | set5E => exact setReg .b5 .e
  | set5H => exact setReg .b5 .h
  | set5L => exact setReg .b5 .l
  | set5IndHl => exact setInd .b5
  | set5A => exact setReg .b5 .a
  | set6B => exact setReg .b6 .b
  | set6C => exact setReg .b6 .c
  | set6D => exact setReg .b6 .d
  | set6E => exact setReg .b6 .e
  | set6H => exact setReg .b6 .h
  | set6L => exact setReg .b6 .l
  | set6IndHl => exact setInd .b6
  | set6A => exact setReg .b6 .a
  | set7B => exact setReg .b7 .b
  | set7C => exact setReg .b7 .c
  | set7D => exact setReg .b7 .d
  | set7E => exact setReg .b7 .e
  | set7H => exact setReg .b7 .h
  | set7L => exact setReg .b7 .l
  | set7IndHl => exact setInd .b7
  | set7A => exact setReg .b7 .a

namespace Machine

/-! ### What `exec` calls for each family -/

@[simp] theorem exec_ldPairImm (p : Pair) (n : Word) (s : State) :
    exec (.ldPairImm p n) s = loadPairImm p n s := by
  cases p <;> rfl

@[simp] theorem exec_incPair (p : Pair) (s : State) :
    exec (.incPair p) s = incrementPair p s := by
  cases p <;> rfl

@[simp] theorem exec_incReg (r : Reg8) (s : State) :
    exec (.incReg r) s = incrementReg r s := by
  cases r <;> rfl

@[simp] theorem exec_decReg (r : Reg8) (s : State) :
    exec (.decReg r) s = decrementReg r s := by
  cases r <;> rfl

@[simp] theorem exec_ldRegImm (r : Reg8) (n : Byte) (s : State) :
    exec (.ldRegImm r n) s = loadRegImm r n s := by
  cases r <;> rfl

@[simp] theorem exec_addHlPair (p : Pair) (s : State) :
    exec (.addHlPair p) s = addHl p s := by
  cases p <;> rfl

@[simp] theorem exec_decPair (p : Pair) (s : State) :
    exec (.decPair p) s = decrementPair p s := by
  cases p <;> rfl

@[simp] theorem exec_jrIf (cc : Cond) (n : Byte) (s : State) :
    exec (.jrIf cc n) s = jumpRelIf cc n s := by
  cases cc <;> rfl

@[simp] theorem exec_ldRegReg (r : Reg8) (r' : Reg8) (s : State) :
    exec (.ldRegReg r r') s = loadRegReg r r' s := by
  cases r <;> cases r' <;> rfl

@[simp] theorem exec_ldRegInd (r : Reg8) (s : State) :
    exec (.ldRegInd r) s = loadRegMem r .hl 8 s := by
  cases r <;> rfl

@[simp] theorem exec_ldIndReg (r : Reg8) (s : State) :
    exec (.ldIndReg r) s = storeMem .hl (s.reg r) 8 s := by
  cases r <;> rfl

@[simp] theorem exec_aluReg (op : AluOp) (r : Reg8) (s : State) :
    exec (.aluReg op r) s = Machine.aluReg op r s := by
  cases op <;> cases r <;> rfl

@[simp] theorem exec_aluInd (op : AluOp) (s : State) :
    exec (.aluInd op) s = Machine.aluInd op s := by
  cases op <;> rfl

@[simp] theorem exec_retIf (cc : Cond) (s : State) :
    exec (.retIf cc) s = returnIf cc s := by
  cases cc <;> rfl

@[simp] theorem exec_popPair (p : StackPair) (s : State) :
    exec (.popPair p) s = popPair p s := by
  cases p <;> rfl

@[simp] theorem exec_jpIf (cc : Cond) (n : Word) (s : State) :
    exec (.jpIf cc n) s = jumpIf cc n s := by
  cases cc <;> rfl

@[simp] theorem exec_callIf (cc : Cond) (n : Word) (s : State) :
    exec (.callIf cc n) s = Machine.callIf cc n s := by
  cases cc <;> rfl

@[simp] theorem exec_pushPair (p : StackPair) (s : State) :
    exec (.pushPair p) s = pushPair p s := by
  cases p <;> rfl

@[simp] theorem exec_aluImm (op : AluOp) (n : Byte) (s : State) :
    exec (.aluImm op n) s = Machine.aluImm op n s := by
  cases op <;> rfl

@[simp] theorem exec_rst (t : RstTarget) (s : State) :
    exec (.rst t) s = restart t s := by
  cases t <;> rfl

@[simp] theorem exec_shiftReg (op : ShiftOp) (r : Reg8) (s : State) :
    exec (.shiftReg op r) s = Machine.shiftReg op r s := by
  cases op <;> cases r <;> rfl

@[simp] theorem exec_shiftInd (op : ShiftOp) (s : State) :
    exec (.shiftInd op) s = Machine.shiftInd op s := by
  cases op <;> rfl

@[simp] theorem exec_bitReg (b : BitIndex) (r : Reg8) (s : State) :
    exec (.bitReg b r) s = testBitReg b r s := by
  cases b <;> cases r <;> rfl

@[simp] theorem exec_bitInd (b : BitIndex) (s : State) :
    exec (.bitInd b) s = testBitInd b s := by
  cases b <;> rfl

@[simp] theorem exec_resReg (b : BitIndex) (r : Reg8) (s : State) :
    exec (.resReg b r) s = resetBitReg b r s := by
  cases b <;> cases r <;> rfl

@[simp] theorem exec_resInd (b : BitIndex) (s : State) :
    exec (.resInd b) s = resetBitInd b s := by
  cases b <;> rfl

@[simp] theorem exec_setReg (b : BitIndex) (r : Reg8) (s : State) :
    exec (.setReg b r) s = setBitReg b r s := by
  cases b <;> cases r <;> rfl

@[simp] theorem exec_setInd (b : BitIndex) (s : State) :
    exec (.setInd b) s = setBitInd b s := by
  cases b <;> rfl

@[simp] theorem exec_nop (s : State) : exec (.nop) s = .next (s.done 4) := rfl

@[simp] theorem exec_ldIndBcA (s : State) : exec (.ldIndBcA) s = storeMem .bc s.a 8 s := rfl

@[simp] theorem exec_rlca (s : State) : exec (.rlca) s = rotateAcc .rlc s := rfl

@[simp] theorem exec_ldIndN16Sp (n : Word) (s : State) : exec (.ldIndN16Sp n) s = storeSp n s := rfl

@[simp] theorem exec_ldAIndBc (s : State) : exec (.ldAIndBc) s = loadRegMem .a .bc 8 s := rfl

@[simp] theorem exec_rrca (s : State) : exec (.rrca) s = rotateAcc .rrc s := rfl

@[simp] theorem exec_stop (n : Byte) (s : State) : exec (.stop n) s = .next (s.raise (.unmodelled (s.currentAddr 2) 0x10)) := rfl

@[simp] theorem exec_ldIndDeA (s : State) : exec (.ldIndDeA) s = storeMem .de s.a 8 s := rfl

@[simp] theorem exec_rla (s : State) : exec (.rla) s = rotateAcc .rl s := rfl

@[simp] theorem exec_jrE8 (e : Byte) (s : State) : exec (.jrE8 e) s = .next ((s.jump (s.pc + sext16 e)).done 12) := rfl

@[simp] theorem exec_ldAIndDe (s : State) : exec (.ldAIndDe) s = loadRegMem .a .de 8 s := rfl

@[simp] theorem exec_rra (s : State) : exec (.rra) s = rotateAcc .rr s := rfl

@[simp] theorem exec_ldIndHliA (s : State) : exec (.ldIndHliA) s = storeMem .hlInc s.a 8 s := rfl

@[simp] theorem exec_ldAIndHli (s : State) : exec (.ldAIndHli) s = loadRegMem .a .hlInc 8 s := rfl

@[simp] theorem exec_cpl (s : State) : exec (.cpl) s = .next ((State.setFlags { s with a := ~~~s.a } { s.flags with n := true, h := true }).done 4) := rfl

@[simp] theorem exec_ldIndHldA (s : State) : exec (.ldIndHldA) s = storeMem .hlDec s.a 8 s := rfl

@[simp] theorem exec_incIndHl (s : State) : exec (.incIndHl) s = incrementInd s := rfl

@[simp] theorem exec_decIndHl (s : State) : exec (.decIndHl) s = decrementInd s := rfl

@[simp] theorem exec_ldIndHlN8 (n : Byte) (s : State) : exec (.ldIndHlN8 n) s = storeMem .hl n 12 s := rfl

@[simp] theorem exec_scf (s : State) : exec (.scf) s = .next ((s.setFlags { s.flags with n := false, h := false, c := true }).done 4) := rfl

@[simp] theorem exec_ldAIndHld (s : State) : exec (.ldAIndHld) s = loadRegMem .a .hlDec 8 s := rfl

@[simp] theorem exec_ccf (s : State) : exec (.ccf) s = .next ((s.setFlags { s.flags with n := false, h := false, c := !s.flags.c }).done 4) := rfl

@[simp] theorem exec_halt (s : State) : exec (.halt) s = .next (State.done { s with halted := true } 4) := rfl

@[simp] theorem exec_jpN16 (n : Word) (s : State) : exec (.jpN16 n) s = .next ((s.jump n).done 16) := rfl

@[simp] theorem exec_ret (s : State) : exec (.ret) s = .next (s.popToPc.done 16) := rfl

@[simp] theorem exec_prefixCb (s : State) : exec (.prefixCb) s = raiseIllegal 0xCB 2 s := rfl

@[simp] theorem exec_callN16 (n : Word) (s : State) : exec (.callN16 n) s = .next ((s.call n).done 24) := rfl

@[simp] theorem exec_reti (s : State) : exec (.reti) s = .next (s.returnFromInterrupt.done 16) := rfl

@[simp] theorem exec_ldhIndN8A (n : Byte) (s : State) : exec (.ldhIndN8A n) s = storeMem (.high n) s.a 12 s := rfl

@[simp] theorem exec_ldIndCA (s : State) : exec (.ldIndCA) s = storeMem .highC s.a 8 s := rfl

@[simp] theorem exec_addSpE8 (e : Byte) (s : State) : exec (.addSpE8 e) s = addSpDisp e s := rfl

@[simp] theorem exec_jpHl (s : State) : exec (.jpHl) s = .next ((s.jump (s.pair .hl)).done 4) := rfl

@[simp] theorem exec_ldIndN16A (n : Word) (s : State) : exec (.ldIndN16A n) s = storeMem (.absolute n) s.a 16 s := rfl

@[simp] theorem exec_ldhAIndN8 (n : Byte) (s : State) : exec (.ldhAIndN8 n) s = loadRegMem .a (.high n) 12 s := rfl

@[simp] theorem exec_ldAIndC (s : State) : exec (.ldAIndC) s = loadRegMem .a .highC 8 s := rfl

@[simp] theorem exec_di (s : State) : exec (.di) s = .next (State.done { s with ime := false } 4) := rfl

@[simp] theorem exec_ldHlSpE8 (e : Byte) (s : State) : exec (.ldHlSpE8 e) s = loadHlSpDisp e s := rfl

@[simp] theorem exec_ldSpHl (s : State) : exec (.ldSpHl) s = loadSpHl s := rfl

@[simp] theorem exec_ldAIndN16 (n : Word) (s : State) : exec (.ldAIndN16 n) s = loadRegMem .a (.absolute n) 16 s := rfl

@[simp] theorem exec_ei (s : State) : exec (.ei) s = .next (State.done { s with ime := true } 4) := rfl

end Machine
end Sys2Proof
end

