-- ==== Sys2Proof/Laws/Fetch.lean ====
section
/-! SUPPORT. What fetching and decoding leave in the state (30_encoding.md rules R84 to R87; 40_pipeline.md rules R115, R127): reads change the
MMU and the trace alone, decode depends on the MMU alone, and `fetchNext` writes `next` or raises. -/

namespace Sys2Proof.Machine

/-! ### `afterDecode` (R85) -/

@[simp] theorem State.afterDecode_a (T : InstrTables) (s : State) (x : Word) : (s.afterDecode T x).a = s.a := by
  unfold State.afterDecode State.fetchAt; dsimp only; split_ifs <;> rfl
@[simp] theorem State.afterDecode_f (T : InstrTables) (s : State) (x : Word) : (s.afterDecode T x).f = s.f := by
  unfold State.afterDecode State.fetchAt; dsimp only; split_ifs <;> rfl
@[simp] theorem State.afterDecode_b (T : InstrTables) (s : State) (x : Word) : (s.afterDecode T x).b = s.b := by
  unfold State.afterDecode State.fetchAt; dsimp only; split_ifs <;> rfl
@[simp] theorem State.afterDecode_c (T : InstrTables) (s : State) (x : Word) : (s.afterDecode T x).c = s.c := by
  unfold State.afterDecode State.fetchAt; dsimp only; split_ifs <;> rfl
@[simp] theorem State.afterDecode_d (T : InstrTables) (s : State) (x : Word) : (s.afterDecode T x).d = s.d := by
  unfold State.afterDecode State.fetchAt; dsimp only; split_ifs <;> rfl
@[simp] theorem State.afterDecode_e (T : InstrTables) (s : State) (x : Word) : (s.afterDecode T x).e = s.e := by
  unfold State.afterDecode State.fetchAt; dsimp only; split_ifs <;> rfl
@[simp] theorem State.afterDecode_h (T : InstrTables) (s : State) (x : Word) : (s.afterDecode T x).h = s.h := by
  unfold State.afterDecode State.fetchAt; dsimp only; split_ifs <;> rfl
@[simp] theorem State.afterDecode_l (T : InstrTables) (s : State) (x : Word) : (s.afterDecode T x).l = s.l := by
  unfold State.afterDecode State.fetchAt; dsimp only; split_ifs <;> rfl
@[simp] theorem State.afterDecode_sp (T : InstrTables) (s : State) (x : Word) : (s.afterDecode T x).sp = s.sp := by
  unfold State.afterDecode State.fetchAt; dsimp only; split_ifs <;> rfl
@[simp] theorem State.afterDecode_pc (T : InstrTables) (s : State) (x : Word) : (s.afterDecode T x).pc = s.pc := by
  unfold State.afterDecode State.fetchAt; dsimp only; split_ifs <;> rfl
@[simp] theorem State.afterDecode_ime (T : InstrTables) (s : State) (x : Word) : (s.afterDecode T x).ime = s.ime := by
  unfold State.afterDecode State.fetchAt; dsimp only; split_ifs <;> rfl
@[simp] theorem State.afterDecode_halted (T : InstrTables) (s : State) (x : Word) : (s.afterDecode T x).halted = s.halted := by
  unfold State.afterDecode State.fetchAt; dsimp only; split_ifs <;> rfl
@[simp] theorem State.afterDecode_runMode (T : InstrTables) (s : State) (x : Word) : (s.afterDecode T x).runMode = s.runMode := by
  unfold State.afterDecode State.fetchAt; dsimp only; split_ifs <;> rfl
@[simp] theorem State.afterDecode_current (T : InstrTables) (s : State) (x : Word) : (s.afterDecode T x).current = s.current := by
  unfold State.afterDecode State.fetchAt; dsimp only; split_ifs <;> rfl
@[simp] theorem State.afterDecode_next (T : InstrTables) (s : State) (x : Word) : (s.afterDecode T x).next = s.next := by
  unfold State.afterDecode State.fetchAt; dsimp only; split_ifs <;> rfl
@[simp] theorem State.afterDecode_fault (T : InstrTables) (s : State) (x : Word) : (s.afterDecode T x).fault = s.fault := by
  unfold State.afterDecode State.fetchAt; dsimp only; split_ifs <;> rfl
@[simp] theorem State.afterDecode_result (T : InstrTables) (s : State) (x : Word) : (s.afterDecode T x).result = s.result := by
  unfold State.afterDecode State.fetchAt; dsimp only; split_ifs <;> rfl

@[simp] theorem State.reg_afterDecode (T : InstrTables) (s : State) (x : Word) (r : Reg8) : (s.afterDecode T x).reg r = s.reg r := by
  cases r <;> simp [State.reg]

/-! ### Decode -/

/-- Three bytes are never too few: they decode to an instruction, or begin with an illegal byte (R87, R96). -/
theorem decode_three_bytes (b0 b1 b2 : Byte) :
    (∃ i rest, decode [b0, b1, b2] = .ok (i, rest)) ∨
    (decode [b0, b1, b2] = .error (.illegalOpcode b0) ∧ b0 ≠ Config.prefixByte ∧ declaredLen b0 ≠ 1 ∧ declaredLen b0 ≠ 2 ∧
      declaredLen b0 ≠ 3) := by
  unfold decode
  by_cases h : b0 = Config.prefixByte
  · exact .inl ⟨prefixEntry b1, [b2], by simp [h]⟩
  · by_cases h1 : declaredLen b0 = 1
    · exact .inl ⟨baseEntry b0 0 0, [b1, b2], by simp [h, h1]⟩
    · by_cases h2 : declaredLen b0 = 2
      · exact .inl ⟨baseEntry b0 b1 0, [b2], by simp [h, h2]⟩
      · by_cases h3 : declaredLen b0 = 3
        · exact .inl ⟨baseEntry b0 b1 b2, [], by simp [h, h3]⟩
        · exact .inr ⟨by simp [h, h1, h2, h3], h, h1, h2, h3⟩

/-- `decode(a)` depends on the MMU alone. -/
theorem State.decodeAt_eq_of_mmu (T : InstrTables) {s t : State} (h : t.mmu = s.mmu) (x : Word) : t.decodeAt T x = s.decodeAt T x := by
  have h1 : (t.noteRead x).mmu = (s.noteRead x).mmu := by simp [h]
  have h2 : ((t.noteRead x).noteRead (x + 1)).mmu = ((s.noteRead x).noteRead (x + 1)).mmu := by simp [h]
  unfold State.decodeAt State.fetchAt
  dsimp only
  rw [State.peek_eq_of_mmu h, State.peek_eq_of_mmu h1, State.peek_eq_of_mmu h2]
  split_ifs <;> rfl

/-- What decode makes of the MMU depends on the MMU alone. -/
theorem State.afterDecode_mmu_eq_of_mmu (T : InstrTables) {s t : State} (h : t.mmu = s.mmu) (x : Word) :
    (t.afterDecode T x).mmu = (s.afterDecode T x).mmu := by
  unfold State.afterDecode State.fetchAt
  dsimp only
  rw [State.peek_eq_of_mmu h]
  split_ifs <;> simp [h]

/-- Decode makes reads and nothing else, whatever the MMU: it leaves the state these accesses make of it (R85). -/
theorem State.afterDecode_reads (T : InstrTables) (s : State) (x : Word) :
    ∃ es, (∀ e ∈ es, ∃ a v, e = BusEvent.read a v) ∧
      s.afterDecode T x = { s with mmu := s.mmu.afterAccesses es, trace := s.trace ++ es } := by
  unfold State.afterDecode State.fetchAt
  dsimp only
  split_ifs
  · exact ⟨[.read x _, .read (x + 1) _], by simp, by simp only [State.noteRead, Mmu.afterAccesses, List.append_assoc]; rfl⟩
  · exact ⟨[.read x _], by simp, rfl⟩
  · exact ⟨[.read x _], by simp, rfl⟩
  · exact ⟨[.read x _, .read (x + 1) _], by simp, by simp only [State.noteRead, Mmu.afterAccesses, List.append_assoc]; rfl⟩
  · exact ⟨[.read x _, .read (x + 1) _, .read (x + 2) _], by simp,
      by simp only [State.noteRead, Mmu.afterAccesses, List.append_assoc]; rfl⟩

/-- The simulator MMU is not changed by decode. -/
theorem State.afterDecode_mmu (T : InstrTables) {s : State} (h : s.mmu.isSimulator = true) (x : Word) : (s.afterDecode T x).mmu = s.mmu := by
  obtain ⟨es, hes, he⟩ := State.afterDecode_reads T s x
  rw [he]; exact Mmu.afterAccesses_reads h hes

@[simp] theorem State.isSimulator_afterDecode (T : InstrTables) (s : State) (x : Word) :
    (s.afterDecode T x).mmu.isSimulator = s.mmu.isSimulator := by
  obtain ⟨es, _, he⟩ := State.afterDecode_reads T s x
  rw [he]; exact Mmu.isSimulator_afterAccesses ..

@[simp] theorem State.wf_afterDecode (T : InstrTables) (s : State) (x : Word) : (s.afterDecode T x).mmu.wf = s.mmu.wf := by
  obtain ⟨es, hes, he⟩ := State.afterDecode_reads T s x
  rw [he]; exact Mmu.wf_afterAccesses_reads _ hes

/-- The record `decode(a)` answers has `addr = a` (R84). -/
theorem State.decodeAt_addr {T : InstrTables} {s : State} {x : Word} {p : ParsedInstruction} (h : s.decodeAt T x = .ok p) : p.addr = x := by
  unfold State.decodeAt State.fetchAt at h
  dsimp only at h
  split_ifs at h <;> (simp only [Except.ok.injEq] at h; subst h; rfl)

/-! ### `fetchNext` (R115) -/

theorem State.fetchNext_of_ok {T : InstrTables} {s : State} {p : ParsedInstruction} (h : s.decodeAt T s.pc = .ok p) :
    s.fetchNext T = (s.afterDecode T s.pc).withNext p := by
  unfold State.fetchNext; rw [h]

theorem State.fetchNext_of_error {T : InstrTables} {s : State} {x : Fault} (h : s.decodeAt T s.pc = .error x) :
    s.fetchNext T = (s.afterDecode T s.pc).raise x := by
  unfold State.fetchNext; rw [h]

@[simp] theorem State.fetchNext_a (T : InstrTables) (s : State) : (s.fetchNext T).a = s.a := by
  unfold State.fetchNext; split <;> simp
@[simp] theorem State.fetchNext_f (T : InstrTables) (s : State) : (s.fetchNext T).f = s.f := by
  unfold State.fetchNext; split <;> simp
@[simp] theorem State.fetchNext_b (T : InstrTables) (s : State) : (s.fetchNext T).b = s.b := by
  unfold State.fetchNext; split <;> simp
@[simp] theorem State.fetchNext_c (T : InstrTables) (s : State) : (s.fetchNext T).c = s.c := by
  unfold State.fetchNext; split <;> simp
@[simp] theorem State.fetchNext_d (T : InstrTables) (s : State) : (s.fetchNext T).d = s.d := by
  unfold State.fetchNext; split <;> simp
@[simp] theorem State.fetchNext_e (T : InstrTables) (s : State) : (s.fetchNext T).e = s.e := by
  unfold State.fetchNext; split <;> simp
@[simp] theorem State.fetchNext_h (T : InstrTables) (s : State) : (s.fetchNext T).h = s.h := by
  unfold State.fetchNext; split <;> simp
@[simp] theorem State.fetchNext_l (T : InstrTables) (s : State) : (s.fetchNext T).l = s.l := by
  unfold State.fetchNext; split <;> simp
@[simp] theorem State.fetchNext_sp (T : InstrTables) (s : State) : (s.fetchNext T).sp = s.sp := by
  unfold State.fetchNext; split <;> simp
@[simp] theorem State.fetchNext_pc (T : InstrTables) (s : State) : (s.fetchNext T).pc = s.pc := by
  unfold State.fetchNext; split <;> simp
@[simp] theorem State.fetchNext_ime (T : InstrTables) (s : State) : (s.fetchNext T).ime = s.ime := by
  unfold State.fetchNext; split <;> simp
@[simp] theorem State.fetchNext_halted (T : InstrTables) (s : State) : (s.fetchNext T).halted = s.halted := by
  unfold State.fetchNext; split <;> simp
@[simp] theorem State.fetchNext_runMode (T : InstrTables) (s : State) : (s.fetchNext T).runMode = s.runMode := by
  unfold State.fetchNext; split <;> simp
@[simp] theorem State.fetchNext_current (T : InstrTables) (s : State) : (s.fetchNext T).current = s.current := by
  unfold State.fetchNext; split <;> simp

/-- Every way the lookahead is filled: decode answers a record, or it raises. -/
theorem State.fetchNext_cases (T : InstrTables) (s : State) :
    (∃ p, s.decodeAt T s.pc = .ok p ∧ s.fetchNext T = (s.afterDecode T s.pc).withNext p) ∨
    (∃ x, s.decodeAt T s.pc = .error x ∧ s.fetchNext T = (s.afterDecode T s.pc).raise x) := by
  cases h : s.decodeAt T s.pc with
  | ok p => exact .inl ⟨p, rfl, State.fetchNext_of_ok h⟩
  | error x => exact .inr ⟨x, rfl, State.fetchNext_of_error h⟩

/-- The lookahead decode leaves the simulator MMU as it was. -/
theorem State.fetchNext_mmu (T : InstrTables) {s : State} (h : s.mmu.isSimulator = true) : (s.fetchNext T).mmu = s.mmu := by
  unfold State.fetchNext; split <;> simpa using State.afterDecode_mmu T h _

@[simp] theorem State.isSimulator_fetchNext (T : InstrTables) (s : State) : (s.fetchNext T).mmu.isSimulator = s.mmu.isSimulator := by
  unfold State.fetchNext; split <;> simp

@[simp] theorem State.wf_fetchNext (T : InstrTables) (s : State) : (s.fetchNext T).mmu.wf = s.mmu.wf := by
  unfold State.fetchNext; split <;> simp

end Sys2Proof.Machine
end

