-- ==== Sys2Proof/Laws/Interrupts.lean ====
section
/-! SUPPORT. What the interrupt controller selects and what it leaves (60_exceptions.md rules R403 to R407). -/

namespace Sys2Proof.Machine

/-! ### The scan (R404) -/

/-- Whether a source is firable depends on the MMU alone. -/
theorem State.firable_eq_of_mmu {s t : State} (h : t.mmu = s.mmu) (k : Source) : t.firable k = s.firable k := by
  unfold State.firable State.bitRead; simp only [State.peek_eq_of_mmu h]

/-- With the simulator MMU a read changes no bit. -/
theorem State.bitRead_noteRead {s : State} (h : s.mmu.isSimulator = true) (x y : Word) (m : Byte) :
    (s.noteRead x).bitRead y m = s.bitRead y m := by simp only [State.bitRead, State.peek_noteRead h]

theorem State.firable_noteRead {s : State} (h : s.mmu.isSimulator = true) (x : Word) (k : Source) :
    (s.noteRead x).firable k = s.firable k := State.firable_eq_of_mmu (Mmu.afterRead_of_simulator h x) k

/-- The scan is reads of IE and IF and nothing else, whatever the MMU. -/
theorem scanSources_snd (l : List Source) (s : State) :
    ∃ es, (∀ e ∈ es, ∃ v, e = BusEvent.read Config.ieAddr v ∨ e = BusEvent.read Config.ifAddr v) ∧
      (scanSources l s).2 = { s with mmu := s.mmu.afterAccesses es, trace := s.trace ++ es } := by
  induction l generalizing s with
  | nil => exact ⟨[], by simp, by simp [scanSources, Mmu.afterAccesses]⟩
  | cons k rest ih =>
    simp only [scanSources]
    split
    · split
      · exact ⟨[.read Config.ieAddr _, .read Config.ifAddr _], by simp,
          by simp only [State.noteRead, Mmu.afterAccesses, List.append_assoc]; rfl⟩
      · obtain ⟨es, hes, h⟩ := ih ((s.noteRead Config.ieAddr).noteRead Config.ifAddr)
        refine ⟨.read Config.ieAddr _ :: .read Config.ifAddr _ :: es, ?_,
          by rw [h]; simp only [State.noteRead, Mmu.afterAccesses, List.append_assoc]; rfl⟩
        simpa using hes
    · obtain ⟨es, hes, h⟩ := ih (s.noteRead Config.ieAddr)
      refine ⟨.read Config.ieAddr _ :: es, ?_, by rw [h]; simp only [State.noteRead, Mmu.afterAccesses, List.append_assoc]; rfl⟩
      simpa using hes

/-- With the simulator MMU the scan finds the first firable source. -/
theorem scanSources_fst (l : List Source) {s : State} (h : s.mmu.isSimulator = true) : (scanSources l s).1 = l.find? s.firable := by
  induction l generalizing s with
  | nil => rfl
  | cons k rest ih =>
    have h1 : (s.noteRead Config.ieAddr).mmu.isSimulator = true := by simpa using h
    have h2 : ((s.noteRead Config.ieAddr).noteRead Config.ifAddr).mmu.isSimulator = true := by simpa using h
    have e1 : State.firable (s.noteRead Config.ieAddr) = s.firable := funext (State.firable_noteRead h _)
    have e2 : State.firable ((s.noteRead Config.ieAddr).noteRead Config.ifAddr) = s.firable :=
      funext fun k => (State.firable_noteRead h1 _ k).trans (State.firable_noteRead h _ k)
    by_cases he : s.bitRead Config.ieAddr (Config.sourceMask k) = true
    · by_cases hi : s.bitRead Config.ifAddr (Config.sourceMask k) = true
      · simp [scanSources, List.find?, State.firable, he, hi, State.bitRead_noteRead h]
      · have hk : s.firable k = false := by simp [State.firable, hi]
        simp [scanSources, List.find?, he, hi, hk, State.bitRead_noteRead h, ih h2, e2]
    · have hk : s.firable k = false := by simp [State.firable, he]
      simp [scanSources, List.find?, he, hk, ih h1, e1]

/-- What `handleInterrupts()` can do, whatever the MMU: reads of IE and IF and nothing else; a wake with no service; or a wake and a
service. -/
theorem handleInterrupts_cases (s : State) :
    ∃ es, (∀ e ∈ es, ∃ v, e = BusEvent.read Config.ieAddr v ∨ e = BusEvent.read Config.ifAddr v) ∧
      let u : State := { s with mmu := s.mmu.afterAccesses es, trace := s.trace ++ es }
      ((scanSources Source.inPriorityOrder s).1 = none ∧ handleInterrupts s = (false, u)) ∨
      (∃ k, (scanSources Source.inPriorityOrder s).1 = some k ∧ s.ime = false ∧ handleInterrupts s = (false, u.wake)) ∨
      (∃ k, (scanSources Source.inPriorityOrder s).1 = some k ∧ s.ime = true ∧ handleInterrupts s = (true, u.wake.serviceInterrupt k)) := by
  obtain ⟨es, hes, h⟩ := scanSources_snd Source.inPriorityOrder s
  refine ⟨es, hes, ?_⟩
  have hs : scanSources Source.inPriorityOrder s =
      ((scanSources Source.inPriorityOrder s).1, { s with mmu := s.mmu.afterAccesses es, trace := s.trace ++ es }) := Prod.ext rfl h
  unfold handleInterrupts
  rw [hs]
  cases (scanSources Source.inPriorityOrder s).1 with
  | none => exact .inl ⟨rfl, rfl⟩
  | some k =>
    cases hi : s.ime with
    | false => exact .inr (.inl ⟨k, rfl, rfl, by simp⟩)
    | true => exact .inr (.inr ⟨k, rfl, rfl, by simp⟩)

/-- Every source is in the priority order, so none is firable exactly when the scan finds none. -/
theorem find_none_iff (s : State) : Source.inPriorityOrder.find? s.firable = none ↔ ∀ k, s.firable k = false := by
  rw [List.find?_eq_none]
  constructor
  · intro h k
    have hk : k ∈ Source.inPriorityOrder := by cases k <;> decide
    simpa using h k hk
  · intro h k _
    simp [h k]

/-! ### Service (R407) -/

/-- What the simulator's memory reads as after a service: the push over the cleared IF byte. -/
theorem State.peek_serviceInterrupt {s : State} (h : s.mmu.isSimulator = true) (k : Source) (x : Word) :
    (s.serviceInterrupt k).peek x =
      if x = s.sp - 2#16 then lowByte s.pc
      else if x = s.sp - 1#16 then highByte s.pc
      else if x = Config.ifAddr then s.peek Config.ifAddr &&& ~~~Config.sourceMask k
      else s.peek x := by
  unfold State.peek
  rw [State.serviceInterrupt_mmu, Mmu.afterRead_of_simulator h, Mmu.answer_afterWrite (by simpa using h),
    Mmu.answer_afterWrite (by simpa using h), Mmu.answer_afterWrite h]
  rfl

end Sys2Proof.Machine
end

