-- ==== Sys2Proof/Laws/Pipeline.lean ====
section
/-! SUPPORT. What one `cycle()` call can do (40_pipeline.md rules R111 to R120), said once: the three ways a call reaches a next state, and the
ways the tail of a call ends. -/

namespace Sys2Proof.Machine

/-- Every way a call answers a next state: it was never primed; it was halted; or it ran the effect of the lookahead. -/
theorem cycle_next_cases {T : InstrTables} {s t : State} (h : cycle T s = .next t) :
    s.fault = none ∧
    ((s.next = none ∧ t = s.beginCall.raise (.notPrimed s.pc)) ∨
     (∃ p, s.next = some p ∧ s.halted = true ∧ t = s.beginCall.finishCall T) ∨
     (∃ p u, s.next = some p ∧ s.halted = false ∧ runEffect T p (s.beginCall.promote p) = .next u ∧ t = u.afterEffect T)) := by
  unfold cycle at h
  cases hf : s.fault with
  | some x => simp [hf] at h
  | none =>
    refine ⟨rfl, ?_⟩
    cases hn : s.next with
    | none => simp [hf, hn] at h; exact .inl ⟨rfl, h.symm⟩
    | some p =>
      simp only [hf, hn, State.executeNext] at h
      cases hh : s.halted with
      | true => simp [hh] at h; exact .inr (.inl ⟨p, rfl, rfl, h.symm⟩)
      | false =>
        simp only [hh, Bool.false_eq_true, if_false] at h
        split at h
        · rename_i u hu; simp at h; exact .inr (.inr ⟨p, u, rfl, rfl, hu, h.symm⟩)
        · simp at h
        · simp at h

/-- A faulted core's call stops with the fault it holds (R120). -/
theorem cycle_of_fault {T : InstrTables} {s : State} {x : Fault} (h : s.fault = some x) : cycle T s = .fault x := by
  unfold cycle; rw [h]

/-- The effect of an entry of the reference tables is the meaning of the instruction its record stands for (R2, R114). -/
@[simp] theorem runEffect_referenceTables (p : ParsedInstruction) (s : State) : runEffect referenceTables p s = exec p.instr s := by
  have h : (referenceTables.entry p.defn).effect = some fun p s => exec p.instr s := by
    unfold InstrTables.entry referenceTables; split <;> rfl
  unfold runEffect; rw [h]

/-- The tail of a call when no source was serviced. -/
theorem State.finishCall_of_false {T : InstrTables} {s u : State} (h : handleInterrupts s = (false, u)) : s.finishCall T = u.demote := by
  unfold State.finishCall; rw [h]

/-- The tail of a call after a service: the lookahead is decoded at the vector, then the run mode moves, unless decode raised (R117). -/
theorem State.finishCall_of_true {T : InstrTables} {s u : State} (h : handleInterrupts s = (true, u)) :
    s.finishCall T = (u.fetchNext T).andThen State.demote := by
  unfold State.finishCall; rw [h]

@[simp] theorem State.andThen_of_none {s : State} {go : State → State} (h : s.fault = none) : s.andThen go = go s := by
  simp [State.andThen, h]

theorem State.andThen_of_some {s : State} {go : State → State} {x : Fault} (h : s.fault = some x) : s.andThen go = s := by
  simp [State.andThen, h]

/-- Every way a call goes on after an effect: the effect's fault ends it; the lookahead's fault ends it; or the end of the call runs. -/
theorem State.afterEffect_cases (T : InstrTables) (s : State) :
    (s.fault ≠ none ∧ s.afterEffect T = s) ∨
    (s.fault = none ∧ ∃ x, s.decodeAt T s.pc = .error x ∧ s.afterEffect T = (s.afterDecode T s.pc).raise x) ∨
    (s.fault = none ∧ ∃ p, s.decodeAt T s.pc = .ok p ∧ s.afterEffect T = ((s.afterDecode T s.pc).withNext p).finishCall T) := by
  cases hf : s.fault with
  | some x => exact .inl ⟨by simp, by simp [State.afterEffect, State.andThen, hf]⟩
  | none =>
    rcases State.fetchNext_cases T s with ⟨p, hd, h⟩ | ⟨x, hd, h⟩
    · exact .inr (.inr ⟨rfl, p, hd, by simp [State.afterEffect, State.andThen, hf, h]⟩)
    · exact .inr (.inl ⟨rfl, x, hd, by simp [State.afterEffect, State.andThen, hf, h]⟩)

end Sys2Proof.Machine
end

