-- ==== Sys2Proof/Laws/Run.lean ====
section
/-! SUPPORT. Runs (70_reset_and_hazards.md rule R464): what one event and what the end of a run can be, and that an end stays the end. -/

namespace Sys2Proof.Machine

/-- Everything one event of a run can do. -/
theorem playMove_cases (T : InstrTables) (s : State) (x : RunMove) :
    (∃ a, x = .host a ∧ playMove T s x = hostAct T a s) ∨
    (x = .call ∧ (cycle T s = .next (playMove T s x) ∨ (playMove T s x = s ∧ ∀ t, cycle T s ≠ .next t))) := by
  cases x with
  | host a => exact .inl ⟨a, rfl, rfl⟩
  | call   => refine .inr ⟨rfl, ?_⟩; simp only [playMove]; split <;> simp_all

/-- The state a call answers is the state after that event. -/
theorem playMove_call_of_next {T : InstrTables} {s t : State} (h : cycle T s = .next t) : playMove T s .call = t := by
  simp only [playMove, h]

@[simp] theorem playMoves_nil (T : InstrTables) (s : State) : playMoves T s [] = s := rfl

@[simp] theorem playMoves_cons (T : InstrTables) (s : State) (x : RunMove) (xs : List RunMove) :
    playMoves T s (x :: xs) = playMoves T (playMove T s x) xs := rfl

@[simp] theorem playMoves_append (T : InstrTables) (s : State) (xs ys : List RunMove) :
    playMoves T s (xs ++ ys) = playMoves T (playMoves T s xs) ys := by
  induction xs generalizing s with
  | nil => rfl
  | cons x xs ih => exact ih _

/-- Everything the outcome of a run with one event more can be. -/
theorem runOutcome_cons_cases (T : InstrTables) (s : State) (x : RunMove) (xs : List RunMove) :
    (s.goneWrong = true ∧ runOutcome T s (x :: xs) = some (.wrong, s.observe)) ∨
    (s.goneWrong = false ∧ x = .call ∧ (playMove T s x).endedNormally = true ∧
      runOutcome T s (x :: xs) = some (.normal, (playMove T s x).observe)) ∨
    (s.goneWrong = false ∧ ¬ (x = .call ∧ (playMove T s x).endedNormally = true) ∧
      runOutcome T s (x :: xs) = runOutcome T (playMove T s x) xs) := by
  simp only [runOutcome]
  cases hg : s.goneWrong
  · by_cases h : x = .call ∧ (playMove T s x).endedNormally = true
    · exact .inr (.inl ⟨rfl, h.1, h.2, if_pos h⟩)
    · exact .inr (.inr ⟨rfl, h, if_neg h⟩)
  · exact .inl ⟨rfl, rfl⟩

theorem runOutcome_of_goneWrong {T : InstrTables} {s : State} {xs : List RunMove} (h : s.goneWrong = true) :
    runOutcome T s xs = some (.wrong, s.observe) := by
  cases xs <;> simp [runOutcome, h]

/-- Once a run has ended, the events after its end play no part. -/
theorem runOutcome_append {T : InstrTables} {s : State} {xs ys : List RunMove} {e : RunEnd × Observation} (h : runOutcome T s xs = some e) :
    runOutcome T s (xs ++ ys) = some e := by
  induction xs generalizing s with
  | nil =>
    cases hg : s.goneWrong
    · simp [runOutcome, hg] at h
    · rw [runOutcome_of_goneWrong hg] at h ⊢; exact h
  | cons x xs ih =>
    rcases runOutcome_cons_cases T s x xs with ⟨hg, h'⟩ | ⟨hg, hx, he, h'⟩ | ⟨hg, hn, h'⟩ <;> rw [h'] at h
    · rw [runOutcome_of_goneWrong hg]; exact h
    · subst hx; simp [runOutcome, hg, he, ← h]
    · rcases runOutcome_cons_cases T s x (xs ++ ys) with ⟨hg', _⟩ | ⟨_, hx, he, _⟩ | ⟨_, _, h''⟩
      · rw [hg] at hg'; cases hg'
      · exact absurd ⟨hx, he⟩ hn
      · exact h''.trans (ih h)

end Sys2Proof.Machine
end

