-- ==== Sys2Proof/Tests/Slice0.lean ====
section
/-! SUPPORT. The model's own tests. The decode tests give every row of the opcode maps of 30_encoding.md the byte that its place in the map
says; the vectors are those of 95_test_vectors.md section 2, grouped by family, each one step; the witnesses show, for every obligation that
has hypotheses, concrete values that meet all of them, clause by clause. -/

namespace Sys2Proof.Machine.Tests

/-! ### Helpers -/

/-- The launch values of the vectors: every register 0 unless the vector names it. -/
def zeros : InitRegs := { a := 0, f := 0, b := 0, c := 0, d := 0, e := 0, h := 0, l := 0, sp := 0xD000, pc := 0x0200 }

/-- A core launched with memory bytes `m` and the code at `pc`, primed. -/
def primed (r : InitRegs) (m : List (Word × Byte)) (code : List Byte) (ime halted : Bool) : State :=
  { ((deviceStep m (State.launch r (.simulator []))).placeBytes r.pc code).prime referenceTables with ime := ime, halted := halted }

/-- What a view shows of the state one step later. -/
def after (s : State) (view : State → List Nat) : Option (List Nat) :=
  match step s with
  | .next t => some (view t)
  | _ => none

/-- The cycles the last call returned; 999 for a fault. -/
def cyclesOf (t : State) : Nat :=
  match t.result with
  | some (.cycles n) => n
  | _ => 999

/-- The code of the recorded fault (R415); 0 for none. -/
def faultCode (t : State) : Nat :=
  match t.fault with
  | some x => x.code
  | none => 0

/-- What the decoder reads at the head of some bytes; none where it rejects. -/
def reads (bytes : List Byte) : Option Instr :=
  match decode bytes with
  | .ok (i, _) => some i
  | .error _ => none

/-! ### Decoding, row by row of the opcode maps (R89 to R96). The immediate bytes are 0x34 and 0x12. -/

theorem test_decode_base_row_0 :
    [[0x00], [0x01, 0x34, 0x12], [0x02], [0x03], [0x04], [0x05], [0x06, 0x34], [0x07], [0x08, 0x34, 0x12], [0x09], [0x0A],
     [0x0B], [0x0C], [0x0D], [0x0E, 0x34], [0x0F]].map reads =
    [some .nop, some (.ldBcN16 0x1234), some .ldIndBcA, some .incBc, some .incB, some .decB, some (.ldBN8 0x34), some .rlca,
     some (.ldIndN16Sp 0x1234), some .addHlBc, some .ldAIndBc, some .decBc, some .incC, some .decC, some (.ldCN8 0x34), some .rrca] := by
  decide

theorem test_decode_base_row_1 :
    [[0x10, 0x34], [0x11, 0x34, 0x12], [0x12], [0x13], [0x14], [0x15], [0x16, 0x34], [0x17], [0x18, 0x34], [0x19], [0x1A],
     [0x1B], [0x1C], [0x1D], [0x1E, 0x34], [0x1F]].map reads =
    [some (.stop 0x34), some (.ldDeN16 0x1234), some .ldIndDeA, some .incDe, some .incD, some .decD, some (.ldDN8 0x34),
     some .rla, some (.jrE8 0x34), some .addHlDe, some .ldAIndDe, some .decDe, some .incE, some .decE, some (.ldEN8 0x34),
     some .rra] := by
  decide

theorem test_decode_base_row_2 :
    [[0x20, 0x34], [0x21, 0x34, 0x12], [0x22], [0x23], [0x24], [0x25], [0x26, 0x34], [0x27], [0x28, 0x34], [0x29], [0x2A],
     [0x2B], [0x2C], [0x2D], [0x2E, 0x34], [0x2F]].map reads =
    [some (.jrNzE8 0x34), some (.ldHlN16 0x1234), some .ldIndHliA, some .incHl, some .incH, some .decH, some (.ldHN8 0x34),
     some .daa, some (.jrZE8 0x34), some .addHlHl, some .ldAIndHli, some .decHl, some .incL, some .decL, some (.ldLN8 0x34),
     some .cpl] := by
  decide

theorem test_decode_base_row_3 :
    [[0x30, 0x34], [0x31, 0x34, 0x12], [0x32], [0x33], [0x34], [0x35], [0x36, 0x34], [0x37], [0x38, 0x34], [0x39], [0x3A],
     [0x3B], [0x3C], [0x3D], [0x3E, 0x34], [0x3F]].map reads =
    [some (.jrNcE8 0x34), some (.ldSpN16 0x1234), some .ldIndHldA, some .incSp, some .incIndHl, some .decIndHl,
     some (.ldIndHlN8 0x34), some .scf, some (.jrCE8 0x34), some .addHlSp, some .ldAIndHld, some .decSp, some .incA, some .decA,
     some (.ldAN8 0x34), some .ccf] := by
  decide

theorem test_decode_base_row_4 :
    [[0x40], [0x41], [0x42], [0x43], [0x44], [0x45], [0x46], [0x47], [0x48], [0x49], [0x4A], [0x4B], [0x4C], [0x4D], [0x4E],
     [0x4F]].map reads =
    [some .ldBB, some .ldBC, some .ldBD, some .ldBE, some .ldBH, some .ldBL, some .ldBIndHl, some .ldBA, some .ldCB, some .ldCC,
     some .ldCD, some .ldCE, some .ldCH, some .ldCL, some .ldCIndHl, some .ldCA] := by
  decide

theorem test_decode_base_row_5 :
    [[0x50], [0x51], [0x52], [0x53], [0x54], [0x55], [0x56], [0x57], [0x58], [0x59], [0x5A], [0x5B], [0x5C], [0x5D], [0x5E],
     [0x5F]].map reads =
    [some .ldDB, some .ldDC, some .ldDD, some .ldDE, some .ldDH, some .ldDL, some .ldDIndHl, some .ldDA, some .ldEB, some .ldEC,
     some .ldED, some .ldEE, some .ldEH, some .ldEL, some .ldEIndHl, some .ldEA] := by
  decide

theorem test_decode_base_row_6 :
    [[0x60], [0x61], [0x62], [0x63], [0x64], [0x65], [0x66], [0x67], [0x68], [0x69], [0x6A], [0x6B], [0x6C], [0x6D], [0x6E],
     [0x6F]].map reads =
    [some .ldHB, some .ldHC, some .ldHD, some .ldHE, some .ldHH, some .ldHL, some .ldHIndHl, some .ldHA, some .ldLB, some .ldLC,
     some .ldLD, some .ldLE, some .ldLH, some .ldLL, some .ldLIndHl, some .ldLA] := by
  decide

theorem test_decode_base_row_7 :
    [[0x70], [0x71], [0x72], [0x73], [0x74], [0x75], [0x76], [0x77], [0x78], [0x79], [0x7A], [0x7B], [0x7C], [0x7D], [0x7E],
     [0x7F]].map reads =
    [some .ldIndHlB, some .ldIndHlC, some .ldIndHlD, some .ldIndHlE, some .ldIndHlH, some .ldIndHlL, some .halt, some .ldIndHlA,
     some .ldAB, some .ldAC, some .ldAD, some .ldAE, some .ldAH, some .ldAL, some .ldAIndHl, some .ldAA] := by
  decide

theorem test_decode_base_row_8 :
    [[0x80], [0x81], [0x82], [0x83], [0x84], [0x85], [0x86], [0x87], [0x88], [0x89], [0x8A], [0x8B], [0x8C], [0x8D], [0x8E],
     [0x8F]].map reads =
    [some .addAB, some .addAC, some .addAD, some .addAE, some .addAH, some .addAL, some .addAIndHl, some .addAA, some .adcAB,
     some .adcAC, some .adcAD, some .adcAE, some .adcAH, some .adcAL, some .adcAIndHl, some .adcAA] := by
  decide

theorem test_decode_base_row_9 :
    [[0x90], [0x91], [0x92], [0x93], [0x94], [0x95], [0x96], [0x97], [0x98], [0x99], [0x9A], [0x9B], [0x9C], [0x9D], [0x9E],
     [0x9F]].map reads =
    [some .subB, some .subC, some .subD, some .subE, some .subH, some .subL, some .subIndHl, some .subA, some .sbcAB,
     some .sbcAC, some .sbcAD, some .sbcAE, some .sbcAH, some .sbcAL, some .sbcAIndHl, some .sbcAA] := by
  decide

theorem test_decode_base_row_A :
    [[0xA0], [0xA1], [0xA2], [0xA3], [0xA4], [0xA5], [0xA6], [0xA7], [0xA8], [0xA9], [0xAA], [0xAB], [0xAC], [0xAD], [0xAE],
     [0xAF]].map reads =
    [some .andB, some .andC, some .andD, some .andE, some .andH, some .andL, some .andIndHl, some .andA, some .xorB, some .xorC,
     some .xorD, some .xorE, some .xorH, some .xorL, some .xorIndHl, some .xorA] := by
  decide

theorem test_decode_base_row_B :
    [[0xB0], [0xB1], [0xB2], [0xB3], [0xB4], [0xB5], [0xB6], [0xB7], [0xB8], [0xB9], [0xBA], [0xBB], [0xBC], [0xBD], [0xBE],
     [0xBF]].map reads =
    [some .orB, some .orC, some .orD, some .orE, some .orH, some .orL, some .orIndHl, some .orA, some .cpB, some .cpC, some .cpD,
     some .cpE, some .cpH, some .cpL, some .cpIndHl, some .cpA] := by
  decide

theorem test_decode_base_row_C :
    [[0xC0], [0xC1], [0xC2, 0x34, 0x12], [0xC3, 0x34, 0x12], [0xC4, 0x34, 0x12], [0xC5], [0xC6, 0x34], [0xC7], [0xC8], [0xC9],
     [0xCA, 0x34, 0x12], [0xCB, 0x37], [0xCC, 0x34, 0x12], [0xCD, 0x34, 0x12], [0xCE, 0x34], [0xCF]].map reads =
    [some .retNz, some .popBc, some (.jpNzN16 0x1234), some (.jpN16 0x1234), some (.callNzN16 0x1234), some .pushBc,
     some (.addAN8 0x34), some .rst00, some .retZ, some .ret, some (.jpZN16 0x1234), some .swapA, some (.callZN16 0x1234),
     some (.callN16 0x1234), some (.adcAN8 0x34), some .rst08] := by
  decide

theorem test_decode_base_row_D :
    [[0xD0], [0xD1], [0xD2, 0x34, 0x12], [0xD3], [0xD4, 0x34, 0x12], [0xD5], [0xD6, 0x34], [0xD7], [0xD8], [0xD9],
     [0xDA, 0x34, 0x12], [0xDB], [0xDC, 0x34, 0x12], [0xDD], [0xDE, 0x34], [0xDF]].map reads =
    [some .retNc, some .popDe, some (.jpNcN16 0x1234), none, some (.callNcN16 0x1234), some .pushDe, some (.subN8 0x34),
     some .rst10, some .retC, some .reti, some (.jpCN16 0x1234), none, some (.callCN16 0x1234), none, some (.sbcAN8 0x34),
     some .rst18] := by
  decide

theorem test_decode_base_row_E :
    [[0xE0, 0x34], [0xE1], [0xE2], [0xE3], [0xE4], [0xE5], [0xE6, 0x34], [0xE7], [0xE8, 0x34], [0xE9], [0xEA, 0x34, 0x12],
     [0xEB], [0xEC], [0xED], [0xEE, 0x34], [0xEF]].map reads =
    [some (.ldhIndN8A 0x34), some .popHl, some .ldIndCA, none, none, some .pushHl, some (.andN8 0x34), some .rst20,
     some (.addSpE8 0x34), some .jpHl, some (.ldIndN16A 0x1234), none, none, none, some (.xorN8 0x34), some .rst28] := by
  decide

theorem test_decode_base_row_F :
    [[0xF0, 0x34], [0xF1], [0xF2], [0xF3], [0xF4], [0xF5], [0xF6, 0x34], [0xF7], [0xF8, 0x34], [0xF9], [0xFA, 0x34, 0x12],
     [0xFB], [0xFC], [0xFD], [0xFE, 0x34], [0xFF]].map reads =
    [some (.ldhAIndN8 0x34), some .popAf, some .ldAIndC, some .di, none, some .pushAf, some (.orN8 0x34), some .rst30,
     some (.ldHlSpE8 0x34), some .ldSpHl, some (.ldAIndN16 0x1234), some .ei, none, none, some (.cpN8 0x34), some .rst38] := by
  decide

theorem test_decode_prefixed_row_0 :
    [0x00, 0x01, 0x02, 0x03, 0x04, 0x05, 0x06, 0x07, 0x08, 0x09, 0x0A, 0x0B, 0x0C, 0x0D, 0x0E, 0x0F].map (fun op => reads [0xCB, op]) =
    [some .rlcB, some .rlcC, some .rlcD, some .rlcE, some .rlcH, some .rlcL, some .rlcIndHl, some .rlcA, some .rrcB, some .rrcC,
     some .rrcD, some .rrcE, some .rrcH, some .rrcL, some .rrcIndHl, some .rrcA] := by
  decide

theorem test_decode_prefixed_row_1 :
    [0x10, 0x11, 0x12, 0x13, 0x14, 0x15, 0x16, 0x17, 0x18, 0x19, 0x1A, 0x1B, 0x1C, 0x1D, 0x1E, 0x1F].map (fun op => reads [0xCB, op]) =
    [some .rlB, some .rlC, some .rlD, some .rlE, some .rlH, some .rlL, some .rlIndHl, some .rlA, some .rrB, some .rrC, some .rrD,
     some .rrE, some .rrH, some .rrL, some .rrIndHl, some .rrA] := by
  decide

theorem test_decode_prefixed_row_2 :
    [0x20, 0x21, 0x22, 0x23, 0x24, 0x25, 0x26, 0x27, 0x28, 0x29, 0x2A, 0x2B, 0x2C, 0x2D, 0x2E, 0x2F].map (fun op => reads [0xCB, op]) =
    [some .slaB, some .slaC, some .slaD, some .slaE, some .slaH, some .slaL, some .slaIndHl, some .slaA, some .sraB, some .sraC,
     some .sraD, some .sraE, some .sraH, some .sraL, some .sraIndHl, some .sraA] := by
  decide

theorem test_decode_prefixed_row_3 :
    [0x30, 0x31, 0x32, 0x33, 0x34, 0x35, 0x36, 0x37, 0x38, 0x39, 0x3A, 0x3B, 0x3C, 0x3D, 0x3E, 0x3F].map (fun op => reads [0xCB, op]) =
    [some .swapB, some .swapC, some .swapD, some .swapE, some .swapH, some .swapL, some .swapIndHl, some .swapA, some .srlB,
     some .srlC, some .srlD, some .srlE, some .srlH, some .srlL, some .srlIndHl, some .srlA] := by
  decide

theorem test_decode_prefixed_row_4 :
    [0x40, 0x41, 0x42, 0x43, 0x44, 0x45, 0x46, 0x47, 0x48, 0x49, 0x4A, 0x4B, 0x4C, 0x4D, 0x4E, 0x4F].map (fun op => reads [0xCB, op]) =
    [some .bit0B, some .bit0C, some .bit0D, some .bit0E, some .bit0H, some .bit0L, some .bit0IndHl, some .bit0A, some .bit1B,
     some .bit1C, some .bit1D, some .bit1E, some .bit1H, some .bit1L, some .bit1IndHl, some .bit1A] := by
  decide

theorem test_decode_prefixed_row_5 :
    [0x50, 0x51, 0x52, 0x53, 0x54, 0x55, 0x56, 0x57, 0x58, 0x59, 0x5A, 0x5B, 0x5C, 0x5D, 0x5E, 0x5F].map (fun op => reads [0xCB, op]) =
    [some .bit2B, some .bit2C, some .bit2D, some .bit2E, some .bit2H, some .bit2L, some .bit2IndHl, some .bit2A, some .bit3B,
     some .bit3C, some .bit3D, some .bit3E, some .bit3H, some .bit3L, some .bit3IndHl, some .bit3A] := by
  decide

theorem test_decode_prefixed_row_6 :
    [0x60, 0x61, 0x62, 0x63, 0x64, 0x65, 0x66, 0x67, 0x68, 0x69, 0x6A, 0x6B, 0x6C, 0x6D, 0x6E, 0x6F].map (fun op => reads [0xCB, op]) =
    [some .bit4B, some .bit4C, some .bit4D, some .bit4E, some .bit4H, some .bit4L, some .bit4IndHl, some .bit4A, some .bit5B,
     some .bit5C, some .bit5D, some .bit5E, some .bit5H, some .bit5L, some .bit5IndHl, some .bit5A] := by
  decide

theorem test_decode_prefixed_row_7 :
    [0x70, 0x71, 0x72, 0x73, 0x74, 0x75, 0x76, 0x77, 0x78, 0x79, 0x7A, 0x7B, 0x7C, 0x7D, 0x7E, 0x7F].map (fun op => reads [0xCB, op]) =
    [some .bit6B, some .bit6C, some .bit6D, some .bit6E, some .bit6H, some .bit6L, some .bit6IndHl, some .bit6A, some .bit7B,
     some .bit7C, some .bit7D, some .bit7E, some .bit7H, some .bit7L, some .bit7IndHl, some .bit7A] := by
  decide

theorem test_decode_prefixed_row_8 :
    [0x80, 0x81, 0x82, 0x83, 0x84, 0x85, 0x86, 0x87, 0x88, 0x89, 0x8A, 0x8B, 0x8C, 0x8D, 0x8E, 0x8F].map (fun op => reads [0xCB, op]) =
    [some .res0B, some .res0C, some .res0D, some .res0E, some .res0H, some .res0L, some .res0IndHl, some .res0A, some .res1B,
     some .res1C, some .res1D, some .res1E, some .res1H, some .res1L, some .res1IndHl, some .res1A] := by
  decide

theorem test_decode_prefixed_row_9 :
    [0x90, 0x91, 0x92, 0x93, 0x94, 0x95, 0x96, 0x97, 0x98, 0x99, 0x9A, 0x9B, 0x9C, 0x9D, 0x9E, 0x9F].map (fun op => reads [0xCB, op]) =
    [some .res2B, some .res2C, some .res2D, some .res2E, some .res2H, some .res2L, some .res2IndHl, some .res2A, some .res3B,
     some .res3C, some .res3D, some .res3E, some .res3H, some .res3L, some .res3IndHl, some .res3A] := by
  decide

theorem test_decode_prefixed_row_A :
    [0xA0, 0xA1, 0xA2, 0xA3, 0xA4, 0xA5, 0xA6, 0xA7, 0xA8, 0xA9, 0xAA, 0xAB, 0xAC, 0xAD, 0xAE, 0xAF].map (fun op => reads [0xCB, op]) =
    [some .res4B, some .res4C, some .res4D, some .res4E, some .res4H, some .res4L, some .res4IndHl, some .res4A, some .res5B,
     some .res5C, some .res5D, some .res5E, some .res5H, some .res5L, some .res5IndHl, some .res5A] := by
  decide

theorem test_decode_prefixed_row_B :
    [0xB0, 0xB1, 0xB2, 0xB3, 0xB4, 0xB5, 0xB6, 0xB7, 0xB8, 0xB9, 0xBA, 0xBB, 0xBC, 0xBD, 0xBE, 0xBF].map (fun op => reads [0xCB, op]) =
    [some .res6B, some .res6C, some .res6D, some .res6E, some .res6H, some .res6L, some .res6IndHl, some .res6A, some .res7B,
     some .res7C, some .res7D, some .res7E, some .res7H, some .res7L, some .res7IndHl, some .res7A] := by
  decide

theorem test_decode_prefixed_row_C :
    [0xC0, 0xC1, 0xC2, 0xC3, 0xC4, 0xC5, 0xC6, 0xC7, 0xC8, 0xC9, 0xCA, 0xCB, 0xCC, 0xCD, 0xCE, 0xCF].map (fun op => reads [0xCB, op]) =
    [some .set0B, some .set0C, some .set0D, some .set0E, some .set0H, some .set0L, some .set0IndHl, some .set0A, some .set1B,
     some .set1C, some .set1D, some .set1E, some .set1H, some .set1L, some .set1IndHl, some .set1A] := by
  decide

theorem test_decode_prefixed_row_D :
    [0xD0, 0xD1, 0xD2, 0xD3, 0xD4, 0xD5, 0xD6, 0xD7, 0xD8, 0xD9, 0xDA, 0xDB, 0xDC, 0xDD, 0xDE, 0xDF].map (fun op => reads [0xCB, op]) =
    [some .set2B, some .set2C, some .set2D, some .set2E, some .set2H, some .set2L, some .set2IndHl, some .set2A, some .set3B,
     some .set3C, some .set3D, some .set3E, some .set3H, some .set3L, some .set3IndHl, some .set3A] := by
  decide

theorem test_decode_prefixed_row_E :
    [0xE0, 0xE1, 0xE2, 0xE3, 0xE4, 0xE5, 0xE6, 0xE7, 0xE8, 0xE9, 0xEA, 0xEB, 0xEC, 0xED, 0xEE, 0xEF].map (fun op => reads [0xCB, op]) =
    [some .set4B, some .set4C, some .set4D, some .set4E, some .set4H, some .set4L, some .set4IndHl, some .set4A, some .set5B,
     some .set5C, some .set5D, some .set5E, some .set5H, some .set5L, some .set5IndHl, some .set5A] := by
  decide

theorem test_decode_prefixed_row_F :
    [0xF0, 0xF1, 0xF2, 0xF3, 0xF4, 0xF5, 0xF6, 0xF7, 0xF8, 0xF9, 0xFA, 0xFB, 0xFC, 0xFD, 0xFE, 0xFF].map (fun op => reads [0xCB, op]) =
    [some .set6B, some .set6C, some .set6D, some .set6E, some .set6H, some .set6L, some .set6IndHl, some .set6A, some .set7B,
     some .set7C, some .set7D, some .set7E, some .set7H, some .set7L, some .set7IndHl, some .set7A] := by
  decide

/-- The prefix followed by itself selects the prefixed entry 0xCB (R81). -/
theorem test_decode_prefix_after_prefix : reads [0xCB, 0xCB] = some .set1E := by decide

/-- A list that ends too early is rejected, never read on. -/
theorem test_decode_truncated : [[], [0xCB], [0x06], [0x01, 0x34]].map reads = [none, none, none, none] := by decide

/-! ### WellFormed: an ill-formed term for each check -/

theorem test_wellFormed_illegal_length :
    [Instr.illegalD3, .illegalDB, .illegalDD, .illegalE3, .illegalE4, .illegalEB, .illegalEC, .illegalED, .illegalF4, .illegalFC,
     .illegalFD].map (fun i => (i.hasLegalLength, WellFormed i)) = List.replicate 11 (false, false) := by decide

theorem test_wellFormed_never_selected : Instr.prefixCb.isSelectable = false ∧ WellFormed .prefixCb = false := by decide

theorem test_wellFormed_accepts : WellFormed (.ldSpN16 0xFFFF) = true ∧ WellFormed (.stop 0) = true := by decide

/-! ### The words of the opcode table and the fetch (log 5, log 6) -/

theorem test_tableWord_base : decodeTableWord 8 0x00 = some .nop ∧ decodeTableWord 16 0x7F06 = some (.ldBN8 0x7F) ∧
    decodeTableWord 24 0xFFFE31 = some (.ldSpN16 0xFFFE) ∧ decodeTableWord 8 0x31 = some (.ldSpN16 0) := by decide

theorem test_tableWord_prefixed : decodeTableWord 16 0xCB37 = some .swapA ∧ decodeTableWord 16 0xCBCB = some .set1E ∧
    decodeTableWord 8 0xD3 = none := by decide

theorem test_fetchWord_runs_first : after (State.reset.withFetchWord 16 0x4206) (fun t => [t.b.toNat, t.pc.toNat, cyclesOf t]) =
    some [0x42, 0x0102, 8] := by decide

theorem test_fetchWord_prefixed : after (State.reset.withFetchWord 16 0xCBC7) (fun t => [t.a.toNat, t.pc.toNat, cyclesOf t]) =
    some [0x01, 0x0102, 8] := by decide

/-- With nothing loaded, the first step after reset finds the lookahead empty (R120). -/
theorem test_reset_is_unprimed : after State.reset (fun t => [faultCode t, t.pc.toNat]) = some [3, 0x0100] := by decide

/-! ### Memory -/

theorem test_memory_canonical :
    (((State.reset.memWrite 0x0002 0x22).memWrite 0x0001 0x11).memWrite 0x0002 0x00).mmu = .simulator [(1, 0x11)] := by decide

theorem test_memory_wf : Memory.wf [(1, 0x11), (65535, 0x22)] = true ∧ Memory.wf [(2, 0x22), (1, 0x11)] = false ∧
    Memory.wf [(1, 0x00)] = false ∧ Memory.wf [(65536, 0x01)] = false := by decide

/-- A push at `sp = 0x0001` writes 0x0000 and 0xFFFF and leaves `sp = 0xFFFF` (R122). -/
theorem test_push_wraps : (fun t : State => (t.mmu, t.sp)) (State.push16 { State.reset with sp := 0x0001 } 0x1234) =
    (.simulator [(0, 0x12), (65535, 0x34)], 0xFFFF) := by decide

/-! ### An MMU of the platform's own (R60) -/

/-- A core on an MMU given by its answers, primed by the first of them. -/
def onAnswers (r : InitRegs) (answers : List Byte) : State := (State.launch r (.external answers [])).prime referenceTables

/-- A read-sensitive location: the two reads of one address, in POP BC with the two bytes at one address of its own, give two answers. The answers
are the opcode, the stack bytes, the lookahead's NOP and IE for the five sources. -/
theorem test_external_pop : after (onAnswers zeros [0xC1, 0x34, 0x12, 0x00, 0x00, 0x00, 0x00, 0x00, 0x00])
    (fun t => [t.b.toNat, t.c.toNat, t.sp.toNat, cyclesOf t, t.trace.length]) = some [0x12, 0x34, 0xD002, 12, 8] := by decide

/-- INC (HL) where the location does not read back what was written: the byte written is the byte read plus one, and the next read answers the MMU's
own. The whole exchange is in the MMU's history. -/
theorem test_external_incIndHl :
    (match step (onAnswers { zeros with h := 0xFF, l := 0x04 } [0x34, 0x41, 0x00, 0x00, 0x00, 0x00, 0x00, 0x00, 0x99]) with
     | .next t => some (t.peek 0xFF04, t.mmu)
     | _ => none) =
    some (0x99, .external [0x99] ([.read 0x0200 0x34, .read 0xFF04 0x41, .write 0xFF04 0x42, .read 0x0201 0x00, .read 0xFFFF 0x00,
      .read 0xFFFF 0x00, .read 0xFFFF 0x00, .read 0xFFFF 0x00, .read 0xFFFF 0x00].map MmuEvent.access)) := by decide

/-! ### Tables of the platform's own (R2, R6) -/

/-- The reference tables with a base entry of length 4 for 0x00, a base entry of length 1 with no valid effect for 0x40, and a prefixed entry with
no valid effect for 0x00. -/
def otherTables : InstrTables :=
  { base     := fun op =>
      if op = 0x00 then { len := 4, nominal := 4, effect := none }
      else if op = 0x40 then { len := 1, nominal := 4, effect := none }
      else referenceTables.base op,
    prefixed := fun op => if op = 0x00 then { len := 2, nominal := 8, effect := none } else referenceTables.prefixed op }

/-- A base entry of length above 3 faults when it is decoded (R87). -/
theorem test_tables_long_entry : (State.launch zeros (.simulator [])).decodeAt otherTables 0x0200 = .error (.illegalOpcode 0x0200 0x00 false) := by
  decide

/-- A prefixed entry with no valid effect decodes, and faults when it is dispatched (R114). -/
theorem test_tables_no_effect :
    (match cycle otherTables ((State.launch zeros (.simulator [(0x0200, 0xCB)])).prime otherTables) with
     | .next t => (t.fault, t.pc)
     | _ => (none, 0)) = (some (.illegalOpcode 0x0200 0x00 true), 0x0202) := by decide

/-! ### Runs -/

/-- A launch with this code at 0x0200 and plain bytes behind the MMU, primed. -/
def runStart (code : List Byte) : State :=
  State.launchPrimed referenceTables zeros ((State.launch zeros (.simulator [])).placeBytes 0x0200 code).mmu

/-- How a run ends, with the `pc` that is observed. -/
def endOf (code : List Byte) (moves : List RunMove) : Option (RunEnd × Word) :=
  (runOutcome referenceTables (runStart code) moves).map fun e => (e.1, e.2.registers.pc)

/-- R464: HALT with no source firable ends the run at the call that executes it, not before, whatever comes after; and with a firable source it does
not. -/
theorem test_run_normal :
    endOf [0x76] [] = none ∧ endOf [0x76] [.call] = some (.normal, 0x0201) ∧
    endOf [0x76] [.call, .host (.writeByte 0xFFFF 0x01), .host (.requestInterrupt .vblank), .call] = some (.normal, 0x0201) ∧
    endOf [0x76] [.host (.writeByte 0xFFFF 0x01), .host (.requestInterrupt .vblank), .call] = none := by decide

/-- R464, R416: a fault ends the run, at a call (STOP) or at priming (an illegal byte). -/
theorem test_run_wrong :
    endOf [0x00, 0x10, 0x00] [.call, .call, .call] = some (.wrong, 0x0203) ∧ endOf [0xD3] [] = some (.wrong, 0x0200) := by decide

/-! ### The vectors of 95_test_vectors.md section 2, by family -/

/-- R201, R202, R203, R204, R205. -/
theorem test_loads_of_registers :
    after (primed { zeros with b := 0x12, c := 0x34 } [] [0x41] false false)
      (fun t => [t.b.toNat, t.c.toNat, t.pc.toNat, cyclesOf t]) = some [0x34, 0x34, 0x0201, 4] ∧
    after (primed { zeros with a := 0x77 } [] [0x7F] false false) (fun t => [t.a.toNat, t.pc.toNat, cyclesOf t]) = some [0x77, 0x0201, 4] ∧
    after (primed zeros [] [0x3E, 0x7F] false false) (fun t => [t.a.toNat, t.pc.toNat, cyclesOf t]) = some [0x7F, 0x0202, 8] ∧
    after (primed { zeros with h := 0xC0, l := 0x00 } [(0xC000, 0x5A)] [0x46] false false) (fun t => [t.b.toNat, cyclesOf t]) = some [0x5A, 8] ∧
    after (primed { zeros with h := 0xC0, l := 0x10 } [(0xC010, 0x99)] [0x66] false false)
      (fun t => [t.h.toNat, t.l.toNat, cyclesOf t]) = some [0x99, 0x10, 8] ∧
    after (primed { zeros with h := 0xC0, l := 0x10, a := 0x99 } [] [0x77] false false)
      (fun t => [(t.peek 0xC010).toNat, cyclesOf t]) = some [0x99, 8] ∧
    after (primed { zeros with h := 0xC0, l := 0x10 } [] [0x74] false false) (fun t => [(t.peek 0xC010).toNat, cyclesOf t]) = some [0xC0, 8] ∧
    after (primed { zeros with h := 0xC0, l := 0x00 } [] [0x36, 0xAB] false false)
      (fun t => [(t.peek 0xC000).toNat, t.pc.toNat, cyclesOf t]) = some [0xAB, 0x0202, 12] := by
  decide

/-- R206, R207, R208, R209, R210, R211. -/
theorem test_loads_of_a :
    after (primed { zeros with b := 0xC1, c := 0x23 } [(0xC123, 0x01)] [0x0A] false false) (fun t => [t.a.toNat, cyclesOf t]) = some [0x01, 8] ∧
    after (primed { zeros with d := 0x80, e := 0x00 } [(0x8000, 0xFF)] [0x1A] false false) (fun t => [t.a.toNat, cyclesOf t]) = some [0xFF, 8] ∧
    after (primed { zeros with b := 0xC0, c := 0x00, a := 0x42 } [] [0x02] false false)
      (fun t => [(t.peek 0xC000).toNat, cyclesOf t]) = some [0x42, 8] ∧
    after (primed { zeros with d := 0xD0, e := 0x00, a := 0x00 } [(0xD000, 0x55)] [0x12] false false)
      (fun t => [(t.peek 0xD000).toNat, cyclesOf t]) = some [0x00, 8] ∧
    after (primed zeros [(0xC000, 0x3C)] [0xFA, 0x00, 0xC0] false false)
      (fun t => [t.a.toNat, t.pc.toNat, cyclesOf t]) = some [0x3C, 0x0203, 16] ∧
    after (primed { zeros with a := 0x00 } [(0xFF0F, 0x1F)] [0xEA, 0x0F, 0xFF] false false)
      (fun t => [(t.peek 0xFF0F).toNat, cyclesOf t]) = some [0x00, 16] := by
  decide

/-- R212, R213, R214, R215, R216, R217. -/
theorem test_loads_high_page_and_moving_hl_1 :
    after (primed zeros [(0xFF0F, 0x04)] [0xF0, 0x0F] false false) (fun t => [t.a.toNat, cyclesOf t]) = some [0x04, 12] ∧
    after (primed zeros [(0xFFFF, 0x1F)] [0xF0, 0xFF] false false) (fun t => [t.a.toNat, cyclesOf t]) = some [0x1F, 12] ∧
    after (primed { zeros with a := 0x01 } [] [0xE0, 0xFF] false false) (fun t => [(t.peek 0xFFFF).toNat, cyclesOf t]) = some [0x01, 12] ∧
    after (primed { zeros with c := 0x80 } [(0xFF80, 0x11)] [0xF2] false false) (fun t => [t.a.toNat, cyclesOf t]) = some [0x11, 8] ∧
    after (primed { zeros with c := 0x81, a := 0x22 } [] [0xE2] false false) (fun t => [(t.peek 0xFF81).toNat, cyclesOf t]) = some [0x22, 8] ∧
    after (primed { zeros with h := 0xC0, l := 0x00 } [(0xC000, 0x07)] [0x2A] false false)
      (fun t => [t.a.toNat, t.h.toNat, t.l.toNat, cyclesOf t]) = some [0x07, 0xC0, 0x01, 8] ∧
    after (primed { zeros with h := 0xFF, l := 0xFF } [(0xFFFF, 0x09)] [0x2A] false false)
      (fun t => [t.a.toNat, t.h.toNat, t.l.toNat, cyclesOf t]) = some [0x09, 0x00, 0x00, 8] ∧
    after (primed { zeros with h := 0xC0, l := 0x01 } [(0xC001, 0x66)] [0x3A] false false)
      (fun t => [t.a.toNat, t.h.toNat, t.l.toNat, cyclesOf t]) = some [0x66, 0xC0, 0x00, 8] := by
  decide

/-- R218, R219. -/
theorem test_loads_high_page_and_moving_hl_2 :
    after (primed { zeros with h := 0xC0, l := 0x00, a := 0x42 } [] [0x22] false false)
      (fun t => [(t.peek 0xC000).toNat, t.h.toNat, t.l.toNat, cyclesOf t]) = some [0x42, 0xC0, 0x01, 8] ∧
    after (primed { zeros with h := 0x00, l := 0x00, a := 0x05 } [(0x0000, 0x00)] [0x32] false false)
      (fun t => [(t.peek 0x0000).toNat, t.h.toNat, t.l.toNat, cyclesOf t]) = some [0x05, 0xFF, 0xFF, 8] := by
  decide

/-- R230, R231, R232, R233. -/
theorem test_loads_16_bit :
    after (primed zeros [] [0x21, 0x34, 0x12] false false)
      (fun t => [t.h.toNat, t.l.toNat, t.pc.toNat, cyclesOf t]) = some [0x12, 0x34, 0x0203, 12] ∧
    after (primed zeros [] [0x31, 0xFE, 0xFF] false false) (fun t => [t.sp.toNat, cyclesOf t]) = some [0xFFFE, 12] ∧
    after (primed { zeros with sp := 0xFFF8 } [] [0x08, 0x00, 0xC1] false false)
      (fun t => [(t.peek 0xC100).toNat, (t.peek 0xC101).toNat, cyclesOf t]) = some [0xF8, 0xFF, 20] ∧
    after (primed { zeros with sp := 0x1234 } [] [0x08, 0xFF, 0xFF] false false)
      (fun t => [(t.peek 0xFFFF).toNat, (t.peek 0x0000).toNat, cyclesOf t]) = some [0x34, 0x12, 20] ∧
    after (primed { zeros with h := 0xDF, l := 0xF0 } [] [0xF9] false false) (fun t => [t.sp.toNat, cyclesOf t]) = some [0xDFF0, 8] ∧
    after (primed { zeros with sp := 0xFFF8 } [] [0xF8, 0x02] false false)
      (fun t => [t.h.toNat, t.l.toNat, t.f.toNat, t.sp.toNat, cyclesOf t]) = some [0xFF, 0xFA, 0x00, 0xFFF8, 12] ∧
    after (primed { zeros with sp := 0x0005 } [] [0xF8, 0xFE] false false)
      (fun t => [t.h.toNat, t.l.toNat, t.f.toNat, cyclesOf t]) = some [0x00, 0x03, 0x30, 12] := by
  decide

/-- R234, R235, R236. -/
theorem test_stack :
    after (primed { zeros with sp := 0xFFFE, b := 0x12, c := 0x34 } [] [0xC5] false false)
      (fun t => [t.sp.toNat, (t.peek 0xFFFD).toNat, (t.peek 0xFFFC).toNat, cyclesOf t]) = some [0xFFFC, 0x12, 0x34, 16] ∧
    after (primed { zeros with sp := 0xD000, a := 0xAB, f := 0xF0 } [] [0xF5] false false)
      (fun t => [t.sp.toNat, (t.peek 0xCFFF).toNat, (t.peek 0xCFFE).toNat, cyclesOf t]) = some [0xCFFE, 0xAB, 0xF0, 16] ∧
    after (primed { zeros with sp := 0x0001, d := 0xAA, e := 0xBB } [] [0xD5] false false)
      (fun t => [t.sp.toNat, (t.peek 0x0000).toNat, (t.peek 0xFFFF).toNat, cyclesOf t]) = some [0xFFFF, 0xAA, 0xBB, 16] ∧
    after (primed { zeros with sp := 0xFFFC } [(0xFFFC, 0x34), (0xFFFD, 0x12)] [0xD1] false false)
      (fun t => [t.d.toNat, t.e.toNat, t.sp.toNat, cyclesOf t]) = some [0x12, 0x34, 0xFFFE, 12] ∧
    after (primed { zeros with sp := 0xC000 } [(0xC000, 0xFF), (0xC001, 0x12)] [0xF1] false false)
      (fun t => [t.a.toNat, t.f.toNat, t.sp.toNat, cyclesOf t]) = some [0x12, 0xF0, 0xC002, 12] := by
  decide

/-- R251, R252, R253, R254, R255, R256. -/
theorem test_add_adc :
    after (primed { zeros with a := 0x3A, b := 0xC6 } [] [0x80] false false)
      (fun t => [t.a.toNat, t.f.toNat, cyclesOf t]) = some [0x00, 0xB0, 4] ∧
    after (primed { zeros with a := 0x88 } [] [0x87] false false) (fun t => [t.a.toNat, t.f.toNat, cyclesOf t]) = some [0x10, 0x30, 4] ∧
    after (primed { zeros with a := 0x0F, h := 0xC0 } [(0xC000, 0x01)] [0x86] false false)
      (fun t => [t.a.toNat, t.f.toNat, cyclesOf t]) = some [0x10, 0x20, 8] ∧
    after (primed { zeros with a := 0x15 } [] [0xC6, 0x27] false false) (fun t => [t.a.toNat, t.f.toNat, cyclesOf t]) = some [0x3C, 0x00, 8] ∧
    after (primed { zeros with a := 0xE1, b := 0x0F, f := 0x10 } [] [0x88] false false)
      (fun t => [t.a.toNat, t.f.toNat, cyclesOf t]) = some [0xF1, 0x20, 4] ∧
    after (primed { zeros with a := 0xFF, b := 0x00, f := 0x10 } [] [0x88] false false)
      (fun t => [t.a.toNat, t.f.toNat, cyclesOf t]) = some [0x00, 0xB0, 4] ∧
    after (primed { zeros with a := 0xE1, f := 0x10, h := 0xC0 } [(0xC000, 0x1E)] [0x8E] false false)
      (fun t => [t.a.toNat, t.f.toNat, cyclesOf t]) = some [0x00, 0xB0, 8] ∧
    after (primed { zeros with a := 0xE1, f := 0x10 } [] [0xCE, 0x3B] false false)
      (fun t => [t.a.toNat, t.f.toNat, cyclesOf t]) = some [0x1D, 0x10, 8] := by
  decide

/-- R257, R258, R259, R260, R261, R262. -/
theorem test_sub_sbc :
    after (primed { zeros with a := 0x3E, e := 0x3E } [] [0x93] false false)
      (fun t => [t.a.toNat, t.f.toNat, cyclesOf t]) = some [0x00, 0xC0, 4] ∧
    after (primed { zeros with a := 0x3E, h := 0xC0 } [(0xC000, 0x40)] [0x96] false false)
      (fun t => [t.a.toNat, t.f.toNat, cyclesOf t]) = some [0xFE, 0x50, 8] ∧
    after (primed { zeros with a := 0x3E } [] [0xD6, 0x0F] false false) (fun t => [t.a.toNat, t.f.toNat, cyclesOf t]) = some [0x2F, 0x60, 8] ∧
    after (primed { zeros with a := 0x3B, h := 0x2A, f := 0x10 } [] [0x9C] false false)
      (fun t => [t.a.toNat, t.f.toNat, cyclesOf t]) = some [0x10, 0x40, 4] ∧
    after (primed { zeros with a := 0x42, f := 0x10 } [] [0x9F] false false)
      (fun t => [t.a.toNat, t.f.toNat, cyclesOf t]) = some [0xFF, 0x70, 4] ∧
    after (primed { zeros with a := 0x3B, f := 0x10, h := 0xC0 } [(0xC000, 0x4F)] [0x9E] false false)
      (fun t => [t.a.toNat, t.f.toNat, cyclesOf t]) = some [0xEB, 0x70, 8] ∧
    after (primed { zeros with a := 0x3B, f := 0x10 } [] [0xDE, 0x3A] false false)
      (fun t => [t.a.toNat, t.f.toNat, cyclesOf t]) = some [0x00, 0xC0, 8] ∧
    after (primed { zeros with a := 0x00, f := 0x10 } [] [0xDE, 0x00] false false)
      (fun t => [t.a.toNat, t.f.toNat, cyclesOf t]) = some [0xFF, 0x70, 8] := by
  decide

/-- R263, R264, R265, R266, R267, R268, R269. -/
theorem test_and_xor_or_1 :
    after (primed { zeros with a := 0x5A, l := 0x3F } [] [0xA5] false false)
      (fun t => [t.a.toNat, t.f.toNat, cyclesOf t]) = some [0x1A, 0x20, 4] ∧
    after (primed { zeros with a := 0x5A, h := 0xC0 } [(0xC000, 0x00)] [0xA6] false false)
      (fun t => [t.a.toNat, t.f.toNat, cyclesOf t]) = some [0x00, 0xA0, 8] ∧
    after (primed { zeros with a := 0x5A } [] [0xE6, 0x38] false false) (fun t => [t.a.toNat, t.f.toNat, cyclesOf t]) = some [0x18, 0x20, 8] ∧
    after (primed { zeros with a := 0xFF, b := 0x0F } [] [0xA8] false false)
      (fun t => [t.a.toNat, t.f.toNat, cyclesOf t]) = some [0xF0, 0x00, 4] ∧
    after (primed { zeros with a := 0x5C, f := 0x70 } [] [0xAF] false false)
      (fun t => [t.a.toNat, t.f.toNat, cyclesOf t]) = some [0x00, 0x80, 4] ∧
    after (primed { zeros with a := 0xFF, h := 0xC0 } [(0xC000, 0x8A)] [0xAE] false false)
      (fun t => [t.a.toNat, t.f.toNat, cyclesOf t]) = some [0x75, 0x00, 8] ∧
    after (primed { zeros with a := 0xFF } [] [0xEE, 0xFF] false false) (fun t => [t.a.toNat, t.f.toNat, cyclesOf t]) = some [0x00, 0x80, 8] ∧
    after (primed { zeros with a := 0x5A, f := 0x10 } [] [0xB7] false false)
      (fun t => [t.a.toNat, t.f.toNat, cyclesOf t]) = some [0x5A, 0x00, 4] := by
  decide

/-- R270, R271. -/
theorem test_and_xor_or_2 :
    after (primed { zeros with a := 0x5A, h := 0xC0 } [(0xC000, 0x0F)] [0xB6] false false)
      (fun t => [t.a.toNat, t.f.toNat, cyclesOf t]) = some [0x5F, 0x00, 8] ∧
    after (primed { zeros with a := 0x5A } [] [0xF6, 0x03] false false) (fun t => [t.a.toNat, t.f.toNat, cyclesOf t]) = some [0x5B, 0x00, 8] := by
  decide

/-- R272, R273, R274. -/
theorem test_cp :
    after (primed { zeros with a := 0x3C, b := 0x2F } [] [0xB8] false false)
      (fun t => [t.a.toNat, t.f.toNat, cyclesOf t]) = some [0x3C, 0x60, 4] ∧
    after (primed { zeros with a := 0x3C, h := 0xC0 } [(0xC000, 0x40)] [0xBE] false false)
      (fun t => [t.a.toNat, t.f.toNat, cyclesOf t]) = some [0x3C, 0x50, 8] ∧
    after (primed { zeros with a := 0x3C } [] [0xFE, 0x3C] false false) (fun t => [t.a.toNat, t.f.toNat, cyclesOf t]) = some [0x3C, 0xC0, 8] := by
  decide

/-- R275, R276, R277, R278. -/
theorem test_inc_dec :
    after (primed { zeros with a := 0xFF } [] [0x3C] false false) (fun t => [t.a.toNat, t.f.toNat, cyclesOf t]) = some [0x00, 0xA0, 4] ∧
    after (primed { zeros with b := 0x0F, f := 0x10 } [] [0x04] false false)
      (fun t => [t.b.toNat, t.f.toNat, cyclesOf t]) = some [0x10, 0x30, 4] ∧
    after (primed { zeros with h := 0xC0 } [(0xC000, 0x50)] [0x34] false false)
      (fun t => [(t.peek 0xC000).toNat, t.f.toNat, cyclesOf t]) = some [0x51, 0x00, 12] ∧
    after (primed { zeros with l := 0x01, f := 0x10 } [] [0x2D] false false)
      (fun t => [t.l.toNat, t.f.toNat, cyclesOf t]) = some [0x00, 0xD0, 4] ∧
    after (primed { zeros with b := 0x00 } [] [0x05] false false) (fun t => [t.b.toNat, t.f.toNat, cyclesOf t]) = some [0xFF, 0x60, 4] ∧
    after (primed { zeros with h := 0xC0 } [(0xC000, 0x00)] [0x35] false false)
      (fun t => [(t.peek 0xC000).toNat, t.f.toNat, cyclesOf t]) = some [0xFF, 0x60, 12] := by
  decide

/-- R279, R280, R281, R282. -/
theorem test_daa_and_flags :
    after (primed { zeros with a := 0x3C, f := 0x00 } [] [0x27] false false)
      (fun t => [t.a.toNat, t.f.toNat, cyclesOf t]) = some [0x42, 0x00, 4] ∧
    after (primed { zeros with a := 0x9A, f := 0x00 } [] [0x27] false false)
      (fun t => [t.a.toNat, t.f.toNat, cyclesOf t]) = some [0x00, 0x90, 4] ∧
    after (primed { zeros with a := 0x0F, f := 0x60 } [] [0x27] false false)
      (fun t => [t.a.toNat, t.f.toNat, cyclesOf t]) = some [0x09, 0x40, 4] ∧
    after (primed { zeros with a := 0xFF, f := 0x70 } [] [0x27] false false)
      (fun t => [t.a.toNat, t.f.toNat, cyclesOf t]) = some [0x99, 0x50, 4] ∧
    after (primed { zeros with a := 0x35 } [] [0x2F] false false) (fun t => [t.a.toNat, t.f.toNat, cyclesOf t]) = some [0xCA, 0x60, 4] ∧
    after (primed { zeros with f := 0xE0 } [] [0x37] false false) (fun t => [t.f.toNat, cyclesOf t]) = some [0x90, 4] ∧
    after (primed { zeros with f := 0x90 } [] [0x3F] false false) (fun t => [t.f.toNat, cyclesOf t]) = some [0x80, 4] := by
  decide

/-- R290, R291, R292, R293. -/
theorem test_arithmetic_16_bit_1 :
    after (primed { zeros with h := 0x8A, l := 0x23, b := 0x06, c := 0x05 } [] [0x09] false false)
      (fun t => [t.h.toNat, t.l.toNat, t.f.toNat, cyclesOf t]) = some [0x90, 0x28, 0x20, 8] ∧
    after (primed { zeros with h := 0xFF, l := 0xFF, d := 0x00, e := 0x01, f := 0x00 } [] [0x19] false false)
      (fun t => [t.h.toNat, t.l.toNat, t.f.toNat, cyclesOf t]) = some [0x00, 0x00, 0x30, 8] ∧
    after (primed { zeros with h := 0x00, l := 0x01, sp := 0xFFFF, f := 0x80 } [] [0x39] false false)
      (fun t => [t.h.toNat, t.l.toNat, t.f.toNat, cyclesOf t]) = some [0x00, 0x00, 0xB0, 8] ∧
    after (primed { zeros with d := 0x23, e := 0x5F } [] [0x13] false false)
      (fun t => [t.d.toNat, t.e.toNat, cyclesOf t]) = some [0x23, 0x60, 8] ∧
    after (primed { zeros with sp := 0xFFFF, f := 0x00 } [] [0x33] false false)
      (fun t => [t.sp.toNat, t.f.toNat, cyclesOf t]) = some [0x0000, 0x00, 8] ∧
    after (primed { zeros with b := 0x00, c := 0x01, f := 0x00 } [] [0x0B] false false)
      (fun t => [t.b.toNat, t.c.toNat, t.f.toNat, cyclesOf t]) = some [0x00, 0x00, 0x00, 8] ∧
    after (primed { zeros with sp := 0xFFF8 } [] [0xE8, 0x02] false false)
      (fun t => [t.sp.toNat, t.f.toNat, cyclesOf t]) = some [0xFFFA, 0x00, 16] ∧
    after (primed { zeros with sp := 0xFFF8 } [] [0xE8, 0x08] false false)
      (fun t => [t.sp.toNat, t.f.toNat, cyclesOf t]) = some [0x0000, 0x30, 16] := by
  decide

/-- R293. -/
theorem test_arithmetic_16_bit_2 :
    after (primed { zeros with sp := 0x0000, f := 0x80 } [] [0xE8, 0xFF] false false)
      (fun t => [t.sp.toNat, t.f.toNat, cyclesOf t]) = some [0xFFFF, 0x00, 16] := by
  decide

/-- R300, R301, R302, R303. -/
theorem test_accumulator_rotates :
    after (primed { zeros with a := 0x85 } [] [0x07] false false) (fun t => [t.a.toNat, t.f.toNat, cyclesOf t]) = some [0x0B, 0x10, 4] ∧
    after (primed { zeros with a := 0x00, f := 0x80 } [] [0x07] false false)
      (fun t => [t.a.toNat, t.f.toNat, cyclesOf t]) = some [0x00, 0x00, 4] ∧
    after (primed { zeros with a := 0x01 } [] [0x0F] false false) (fun t => [t.a.toNat, t.f.toNat, cyclesOf t]) = some [0x80, 0x10, 4] ∧
    after (primed { zeros with a := 0x95, f := 0x10 } [] [0x17] false false)
      (fun t => [t.a.toNat, t.f.toNat, cyclesOf t]) = some [0x2B, 0x10, 4] ∧
    after (primed { zeros with a := 0x80 } [] [0x17] false false) (fun t => [t.a.toNat, t.f.toNat, cyclesOf t]) = some [0x00, 0x10, 4] ∧
    after (primed { zeros with a := 0x81 } [] [0x1F] false false) (fun t => [t.a.toNat, t.f.toNat, cyclesOf t]) = some [0x40, 0x10, 4] := by
  decide

/-- R305, R306, R307, R308, R309, R310, R311. -/
theorem test_prefixed_rotates_1 :
    after (primed { zeros with b := 0x85 } [] [0xCB, 0x00] false false)
      (fun t => [t.b.toNat, t.f.toNat, t.pc.toNat, cyclesOf t]) = some [0x0B, 0x10, 0x0202, 8] ∧
    after (primed { zeros with a := 0x00 } [] [0xCB, 0x07] false false) (fun t => [t.a.toNat, t.f.toNat, cyclesOf t]) = some [0x00, 0x80, 8] ∧
    after (primed { zeros with h := 0xC0 } [(0xC000, 0x00)] [0xCB, 0x06] false false)
      (fun t => [(t.peek 0xC000).toNat, t.f.toNat, cyclesOf t]) = some [0x00, 0x80, 16] ∧
    after (primed { zeros with c := 0x01 } [] [0xCB, 0x09] false false) (fun t => [t.c.toNat, t.f.toNat, cyclesOf t]) = some [0x80, 0x10, 8] ∧
    after (primed { zeros with h := 0xC0 } [(0xC000, 0x02)] [0xCB, 0x0E] false false)
      (fun t => [(t.peek 0xC000).toNat, t.f.toNat, cyclesOf t]) = some [0x01, 0x00, 16] ∧
    after (primed { zeros with d := 0x80 } [] [0xCB, 0x12] false false) (fun t => [t.d.toNat, t.f.toNat, cyclesOf t]) = some [0x00, 0x90, 8] ∧
    after (primed { zeros with h := 0xC0 } [(0xC000, 0x11)] [0xCB, 0x16] false false)
      (fun t => [(t.peek 0xC000).toNat, t.f.toNat, cyclesOf t]) = some [0x22, 0x00, 16] ∧
    after (primed { zeros with e := 0x01 } [] [0xCB, 0x1B] false false) (fun t => [t.e.toNat, t.f.toNat, cyclesOf t]) = some [0x00, 0x90, 8] := by
  decide

/-- R312. -/
theorem test_prefixed_rotates_2 :
    after (primed { zeros with h := 0xC0 } [(0xC000, 0x8A)] [0xCB, 0x1E] false false)
      (fun t => [(t.peek 0xC000).toNat, t.f.toNat, cyclesOf t]) = some [0x45, 0x00, 16] := by
  decide

/-- R313, R314, R315, R316, R317, R318, R319, R320. -/
theorem test_prefixed_shifts :
    after (primed { zeros with h := 0x80 } [] [0xCB, 0x24] false false) (fun t => [t.h.toNat, t.f.toNat, cyclesOf t]) = some [0x00, 0x90, 8] ∧
    after (primed { zeros with h := 0xC0 } [(0xC000, 0xFF)] [0xCB, 0x26] false false)
      (fun t => [(t.peek 0xC000).toNat, t.f.toNat, cyclesOf t]) = some [0xFE, 0x10, 16] ∧
    after (primed { zeros with l := 0x8A } [] [0xCB, 0x2D] false false) (fun t => [t.l.toNat, t.f.toNat, cyclesOf t]) = some [0xC5, 0x00, 8] ∧
    after (primed { zeros with h := 0xC0 } [(0xC000, 0x01)] [0xCB, 0x2E] false false)
      (fun t => [(t.peek 0xC000).toNat, t.f.toNat, cyclesOf t]) = some [0x00, 0x90, 16] ∧
    after (primed { zeros with a := 0xF0 } [] [0xCB, 0x37] false false) (fun t => [t.a.toNat, t.f.toNat, cyclesOf t]) = some [0x0F, 0x00, 8] ∧
    after (primed { zeros with h := 0xC0, f := 0x70 } [(0xC000, 0x00)] [0xCB, 0x36] false false)
      (fun t => [(t.peek 0xC000).toNat, t.f.toNat, cyclesOf t]) = some [0x00, 0x80, 16] ∧
    after (primed { zeros with a := 0xA1 } [] [0xCB, 0x3F] false false) (fun t => [t.a.toNat, t.f.toNat, cyclesOf t]) = some [0x50, 0x10, 8] ∧
    after (primed { zeros with h := 0xC0 } [(0xC000, 0xFF)] [0xCB, 0x3E] false false)
      (fun t => [(t.peek 0xC000).toNat, t.f.toNat, cyclesOf t]) = some [0x7F, 0x10, 16] := by
  decide

/-- R321, R322, R323, R324, R325, R326. -/
theorem test_bits :
    after (primed { zeros with h := 0x80 } [] [0xCB, 0x7C] false false) (fun t => [t.h.toNat, t.f.toNat, cyclesOf t]) = some [0x80, 0x20, 8] ∧
    after (primed { zeros with h := 0x7F, f := 0x10 } [] [0xCB, 0x7C] false false) (fun t => [t.f.toNat, cyclesOf t]) = some [0xB0, 8] ∧
    after (primed { zeros with h := 0xC0 } [(0xC000, 0xFE)] [0xCB, 0x46] false false) (fun t => [t.f.toNat, cyclesOf t]) = some [0xA0, 12] ∧
    after (primed { zeros with a := 0xFF } [] [0xCB, 0x9F] false false) (fun t => [t.a.toNat, cyclesOf t]) = some [0xF7, 8] ∧
    after (primed { zeros with h := 0xC0 } [(0xC000, 0x01)] [0xCB, 0x86] false false)
      (fun t => [(t.peek 0xC000).toNat, cyclesOf t]) = some [0x00, 16] ∧
    after (primed { zeros with a := 0x21, f := 0x50 } [] [0xCB, 0xFF] false false)
      (fun t => [t.a.toNat, t.f.toNat, cyclesOf t]) = some [0xA1, 0x50, 8] ∧
    after (primed { zeros with h := 0xC0 } [(0xC000, 0x00)] [0xCB, 0xC6] false false)
      (fun t => [(t.peek 0xC000).toNat, cyclesOf t]) = some [0x01, 16] := by
  decide

/-- R331, R332, R333, R334, R335. -/
theorem test_jumps_1 :
    after (primed { zeros with pc := 0x0150 } [] [0xC3, 0x00, 0x02] false false) (fun t => [t.pc.toNat, cyclesOf t]) = some [0x0200, 16] ∧
    after (primed { zeros with pc := 0x0150, f := 0x80 } [] [0xCA, 0x00, 0x02] false false)
      (fun t => [t.pc.toNat, cyclesOf t]) = some [0x0200, 16] ∧
    after (primed { zeros with pc := 0x0150, f := 0x00 } [] [0xCA, 0x00, 0x02] false false)
      (fun t => [t.pc.toNat, cyclesOf t]) = some [0x0153, 12] ∧
    after (primed { zeros with h := 0x40, l := 0x00 } [] [0xE9] false false) (fun t => [t.pc.toNat, cyclesOf t]) = some [0x4000, 4] ∧
    after (primed { zeros with pc := 0x0100 } [] [0x18, 0x05] false false) (fun t => [t.pc.toNat, cyclesOf t]) = some [0x0107, 12] ∧
    after (primed { zeros with pc := 0x0100 } [] [0x18, 0xFE] false false) (fun t => [t.pc.toNat, cyclesOf t]) = some [0x0100, 12] ∧
    after (primed { zeros with pc := 0xFFFE } [] [0x18, 0x05] false false) (fun t => [t.pc.toNat, cyclesOf t]) = some [0x0005, 12] ∧
    after (primed { zeros with pc := 0x0106, f := 0x00 } [] [0x20, 0xFC] false false) (fun t => [t.pc.toNat, cyclesOf t]) = some [0x0104, 12] := by
  decide

/-- R335. -/
theorem test_jumps_2 :
    after (primed { zeros with pc := 0x0106, f := 0x80 } [] [0x20, 0xFC] false false) (fun t => [t.pc.toNat, cyclesOf t]) = some [0x0108, 8] ∧
    after (primed { zeros with pc := 0x0200, f := 0x10 } [] [0x38, 0x10] false false) (fun t => [t.pc.toNat, cyclesOf t]) = some [0x0212, 12] := by
  decide

/-- R336, R337, R338, R339, R340. -/
theorem test_calls_and_returns_1 :
    after (primed { zeros with pc := 0x0208, sp := 0xFFFE } [] [0xCD, 0x10, 0x02] false false)
      (fun t => [t.pc.toNat, t.sp.toNat, (t.peek 0xFFFD).toNat, (t.peek 0xFFFC).toNat, cyclesOf t]) = some [0x0210, 0xFFFC, 0x02, 0x0B, 24] ∧
    after (primed { zeros with pc := 0x0300, sp := 0xD000, f := 0x00 } [] [0xD4, 0x00, 0x40] false false)
      (fun t => [t.pc.toNat, t.sp.toNat, (t.peek 0xCFFF).toNat, (t.peek 0xCFFE).toNat, cyclesOf t]) = some [0x4000, 0xCFFE, 0x03, 0x03, 24] ∧
    after (primed { zeros with pc := 0x0300, sp := 0xD000, f := 0x10 } [] [0xD4, 0x00, 0x40] false false)
      (fun t => [t.pc.toNat, t.sp.toNat, cyclesOf t]) = some [0x0303, 0xD000, 12] ∧
    after (primed { zeros with sp := 0xFFFC } [(0xFFFC, 0x0B), (0xFFFD, 0x02)] [0xC9] false false)
      (fun t => [t.pc.toNat, t.sp.toNat, cyclesOf t]) = some [0x020B, 0xFFFE, 16] ∧
    after (primed { zeros with sp := 0xFFFF } [(0xFFFF, 0x34), (0x0000, 0x12)] [0xC9] false false)
      (fun t => [t.pc.toNat, t.sp.toNat, cyclesOf t]) = some [0x1234, 0x0001, 16] ∧
    after (primed { zeros with sp := 0xFFFC, f := 0x80 } [(0xFFFC, 0x00), (0xFFFD, 0x30)] [0xC8] false false)
      (fun t => [t.pc.toNat, t.sp.toNat, cyclesOf t]) = some [0x3000, 0xFFFE, 20] ∧
    after (primed { zeros with sp := 0xFFFC, f := 0x00 } [] [0xC8] false false)
      (fun t => [t.pc.toNat, t.sp.toNat, cyclesOf t]) = some [0x0201, 0xFFFC, 8] ∧
    after (primed { zeros with sp := 0xCFFE } [(0xCFFE, 0x03), (0xCFFF, 0x03)] [0xD9] false false)
      (fun t => [t.pc.toNat, t.sp.toNat, t.ime.toNat, cyclesOf t]) = some [0x0303, 0xD000, 1, 16] := by
  decide

/-- R341. -/
theorem test_calls_and_returns_2 :
    after (primed { zeros with pc := 0x1234, sp := 0xFFFE } [] [0xEF] false false)
      (fun t => [t.pc.toNat, t.sp.toNat, (t.peek 0xFFFD).toNat, (t.peek 0xFFFC).toNat, cyclesOf t]) = some [0x0028, 0xFFFC, 0x12, 0x35, 16] ∧
    after (primed { zeros with pc := 0x0200, sp := 0xD000 } [] [0xFF] false false)
      (fun t => [t.pc.toNat, t.sp.toNat, (t.peek 0xCFFF).toNat, (t.peek 0xCFFE).toNat, cyclesOf t]) = some [0x0038, 0xCFFE, 0x02, 0x01, 16] := by
  decide

/-- R350, R351, R352, R353, R354, R356. -/
theorem test_system_1 :
    after (primed { zeros with pc := 0x0200, a := 0x11, f := 0x50 } [] [0x00] false false)
      (fun t => [t.pc.toNat, t.a.toNat, t.f.toNat, cyclesOf t]) = some [0x0201, 0x11, 0x50, 4] ∧
    after (primed { zeros with pc := 0xFFFF } [] [0x00] false false) (fun t => [t.pc.toNat, cyclesOf t]) = some [0x0000, 4] ∧
    after (primed { zeros with pc := 0x0200 } [] [0x76] false false) (fun t => [t.pc.toNat, t.halted.toNat, cyclesOf t]) = some [0x0201, 1, 4] ∧
    after (primed { zeros with pc := 0x0200 } [(0xFFFF, 0x01), (0xFF0F, 0x01)] [0x76] false false)
      (fun t => [t.pc.toNat, t.halted.toNat, (t.peek 0xFF0F).toNat, cyclesOf t]) = some [0x0201, 0, 0x01, 4] ∧
    after (primed { zeros with pc := 0x0150 } [] [0x10, 0x00] false false) (fun t => [t.pc.toNat, faultCode t]) = some [0x0152, 2] ∧
    after (primed zeros [(0xFFFF, 0x01), (0xFF0F, 0x01)] [0xF3] true false)
      (fun t => [t.pc.toNat, t.ime.toNat, (t.peek 0xFF0F).toNat, cyclesOf t]) = some [0x0201, 0, 0x01, 4] ∧
    after (primed { zeros with pc := 0x0300, sp := 0xD000 } [(0xFFFF, 0x04), (0xFF0F, 0x04)] [0xFB] false false)
      (fun t => [t.pc.toNat, t.sp.toNat, t.ime.toNat, (t.peek 0xFF0F).toNat, (t.peek 0xCFFF).toNat, (t.peek 0xCFFE).toNat, cyclesOf t]) = some [0x0050, 0xCFFE, 0, 0x00, 0x03, 0x01, 4] ∧
    after (primed { zeros with pc := 0x0200 } [] [0x00, 0xD3] false false) (fun t => [t.pc.toNat, faultCode t]) = some [0x0201, 1] := by
  decide

/-- R356. -/
theorem test_system_2 :
    after (primed { zeros with pc := 0x0200 } [(0x0300, 0xFD)] [0xC3, 0x00, 0x03] false false)
      (fun t => [t.pc.toNat, faultCode t]) = some [0x0300, 1] := by
  decide

/-- R113, R119, R403, R405, R407, R409, R458. -/
theorem test_engine :
    after (primed { zeros with pc := 0x0201 } [] [0x00] false true) (fun t => [t.pc.toNat, t.halted.toNat, cyclesOf t]) = some [0x0201, 1, 0] ∧
    after (primed { zeros with pc := 0x0201, sp := 0xD000 } [(0xFFFF, 0x10), (0xFF0F, 0x10)] [0x00] false true)
      (fun t => [t.pc.toNat, t.sp.toNat, t.halted.toNat, (t.peek 0xFF0F).toNat, cyclesOf t]) = some [0x0201, 0xD000, 0, 0x10, 0] ∧
    after (primed { zeros with pc := 0x0201, sp := 0xD000 } [(0xFFFF, 0x02), (0xFF0F, 0x02)] [0x00] true true)
      (fun t => [t.pc.toNat, t.sp.toNat, t.halted.toNat, t.ime.toNat, (t.peek 0xFF0F).toNat, (t.peek 0xCFFF).toNat, (t.peek 0xCFFE).toNat, cyclesOf t]) = some [0x0048, 0xCFFE, 0, 0, 0x00, 0x02, 0x01, 0] ∧
    after (primed { zeros with sp := 0xD000 } [(0xFFFF, 0x1F), (0xFF0F, 0x1F)] [0x00] true false)
      (fun t => [t.pc.toNat, t.sp.toNat, t.ime.toNat, (t.peek 0xFF0F).toNat, (t.peek 0xCFFF).toNat, (t.peek 0xCFFE).toNat, cyclesOf t]) = some [0x0040, 0xCFFE, 0, 0x1E, 0x02, 0x01, 4] ∧
    after (primed { zeros with sp := 0xD000 } [(0xFFFF, 0x18), (0xFF0F, 0x1F)] [0x00] true false)
      (fun t => [t.pc.toNat, (t.peek 0xFF0F).toNat, cyclesOf t]) = some [0x0058, 0x17, 4] ∧
    after (primed { zeros with sp := 0xD000 } [(0xFFFF, 0x00), (0xFF0F, 0x1F)] [0x00] true false)
      (fun t => [t.pc.toNat, t.sp.toNat, t.ime.toNat, (t.peek 0xFF0F).toNat, cyclesOf t]) = some [0x0201, 0xD000, 1, 0x1F, 4] ∧
    after (primed { zeros with sp := 0xD000, a := 0x04 } [(0xFFFF, 0x04)] [0xEA, 0x0F, 0xFF] true false)
      (fun t => [t.pc.toNat, t.sp.toNat, (t.peek 0xFF0F).toNat, (t.peek 0xCFFF).toNat, (t.peek 0xCFFE).toNat, cyclesOf t]) = some [0x0050, 0xCFFE, 0x00, 0x02, 0x03, 16] ∧
    after (primed { zeros with pc := 0x0200 } [] [0x18, 0x00] false false) (fun t => [t.pc.toNat, cyclesOf t]) = some [0x0202, 12] := by
  decide

/-! ### Witnesses: concrete values that meet the hypotheses of each obligation -/

/-- A state with F as given, every other register 0. -/
def withF (f : Byte) : State := primed { zeros with f := f } [] [0x00] false false

/-- A step that shows no fault reaches a next state without one. -/
theorem next_of_after {s : State} (h : after s (fun t => [t.fault.isNone.toNat]) = some [1]) : ∃ t, step s = .next t ∧ t.fault = none := by
  unfold after at h
  split at h
  · rename_i t ht
    refine ⟨t, ht, ?_⟩
    cases hf : t.fault with
    | none => rfl
    | some x => simp [hf] at h
  · cases h

theorem witness_DecodeOfEncodeIsTheInstruction : WellFormed (.ldSpN16 0xFFFE) = true ∧ WellFormed .set7A = true ∧ WellFormed .nop = true := by
  decide

theorem witness_EncodeOfDecodedIsTheBytes :
    decode [0x31, 0xFE, 0xFF, 0x00] = .ok (.ldSpN16 0xFFFE, [0x00]) ∧ decode [0xCB, 0xFF] = .ok (.set7A, []) := ⟨rfl, rfl⟩

/-- An illegal byte at each end of memory; and an entry of length 4 in other tables. -/
theorem witness_ElevenIllegalBytesAreRejected :
    (primed zeros [(0xFFFF, 0xD3), (0x0000, 0xFD)] [] false false).peek 0xFFFF = 0xD3 ∧ declaredLen 0xD3 = 0 ∧
    (primed zeros [(0xFFFF, 0xD3), (0x0000, 0xFD)] [] false false).peek 0x0000 = 0xFD ∧ declaredLen 0xFD = 0 ∧
    State.reset.peek 0x0100 = 0x00 ∧ (0x00 : Byte) ≠ 0xCB ∧ 3 < (otherTables.base 0x00).len := by decide

theorem witness_PopLoadsThePair :
    ∀ p ∈ [(Pair.bc, StackPair.bc), (.de, .de), (.hl, .hl)], p ∈ [(Pair.bc, StackPair.bc), (.de, .de), (.hl, .hl)] := by decide

/-- A push at `sp = 0x0001`, then a host write elsewhere, then the pop; and an MMU of the platform's own that reads the two bytes back. -/
theorem witness_PopAfterPushReturnsTheValue :
    (let s : State := { State.reset with sp := 0x0001 }
     let u : State := (s.push16 0x1234).hostWrite 0xC000 0x55
     s.mmu.isSimulator = true ∧ u.mmu.isSimulator = true ∧ u.sp = (s.push16 0x1234).sp ∧
       u.peek (s.sp - 1) = (s.push16 0x1234).peek (s.sp - 1) ∧ u.peek (s.sp - 2) = (s.push16 0x1234).peek (s.sp - 2)) ∧
    (let s := State.launch zeros (.external [0x34, 0x12] [])
     let u := s.push16 0x1234
     u.sp = (s.push16 0x1234).sp ∧ u.peek (s.sp - 2) = lowByte 0x1234 ∧ (u.noteRead (s.sp - 2)).peek (s.sp - 1) = highByte 0x1234) := by
  decide

theorem witness_AccumulatorRotates :
    ∀ x ∈ [(Instr.rlca, (0x07 : Byte), ShiftOp.rlc), (.rrca, 0x0F, .rrc), (.rla, 0x17, .rl), (.rra, 0x1F, .rr)],
      x ∈ [(Instr.rlca, (0x07 : Byte), ShiftOp.rlc), (.rrca, 0x0F, .rrc), (.rla, 0x17, .rl), (.rra, 0x1F, .rr)] := by decide

/-- Both sides of every condition of Jumps, CallsAndRestarts and Returns. -/
theorem witness_Holds :
    (Holds .nz (withF 0x00) ∧ ¬ Holds .nz (withF 0x80)) ∧ (Holds .z (withF 0x80) ∧ ¬ Holds .z (withF 0x00)) ∧
    (Holds .nc (withF 0xE0) ∧ ¬ Holds .nc (withF 0x10)) ∧ (Holds .c (withF 0x10) ∧ ¬ Holds .c (withF 0xE0)) := by
  unfold Holds; decide

theorem witness_StopRaisesUnmodelled :
    (∃ s : State, s.current = some (recordOf 0x0150 (.stop 0x00))) ∧
    (let s := primed zeros [] [0x10, 0x00] false false
     s.fault = none ∧ s.halted = false ∧ s.next = some (recordOf 0x0200 (.stop 0x00)) ∧
       (recordOf 0x0200 (.stop 0x00)).instr = .stop 0x00 ∧ (recordOf 0x0200 (.stop 0x00)).len = 2) :=
  ⟨⟨{ State.reset with current := some (recordOf 0x0150 (.stop 0x00)) }, rfl⟩, rfl, rfl, rfl, rfl, rfl⟩

/-- A prefixed entry with no valid effect, and a base one. -/
theorem witness_UndispatchedEntriesRaiseIllegalOpcode :
    (∃ s : State, s.current = some (recordOf 0x0200 .nop)) ∧ decode [0x00] = .ok (.nop, []) ∧
    (let s := primed zeros [] [0xCB, 0x00] false false
     s.fault = none ∧ s.halted = false ∧ s.next = some (recordOf 0x0200 .rlcB) ∧ (otherTables.entry (recordOf 0x0200 .rlcB).defn).effect.isNone) ∧
    (let s := primed zeros [] [0x40] false false
     s.fault = none ∧ s.halted = false ∧ s.next = some (recordOf 0x0200 .ldBB) ∧
       (otherTables.entry (recordOf 0x0200 .ldBB).defn).effect.isNone) :=
  ⟨⟨{ State.reset with current := some (recordOf 0x0200 .nop) }, rfl⟩, rfl, ⟨rfl, rfl, rfl, rfl⟩, rfl, rfl, rfl, rfl⟩

/-- A conditional row and an unconditional one. -/
theorem witness_EveryInstructionReturnsItsTableCycles :
    (WellFormed (.jrNzE8 0x80) = true ∧ ∀ n, Instr.jrNzE8 0x80 ≠ .stop n) ∧ (WellFormed .addAB = true ∧ ∀ n, Instr.addAB ≠ .stop n) :=
  ⟨⟨rfl, fun _ h => Instr.noConfusion h⟩, rfl, fun _ h => Instr.noConfusion h⟩

/-- The hypothesis of EffectsKeepThePipelineState and OnlyNamedInstructionsWriteImeAndHalted, for an effect that sets `ime`, one that halts and
one that raises. -/
theorem witness_effects :
    (∃ t, exec .ei State.reset = .next t) ∧ (∃ t, exec .halt State.reset = .next t) ∧ (∃ t, exec (.stop 0x00) State.reset = .next t) :=
  ⟨⟨_, rfl⟩, ⟨_, rfl⟩, ⟨_, rfl⟩⟩

/-- An instruction whose bytes straddle 0xFFFF. -/
theorem witness_StepRunsTheDecodedInstruction :
    let s := primed { zeros with pc := 0xFFFF } [] [0x31, 0xFE, 0xFF] false false
    s.fault = none ∧ s.halted = false ∧ decode (s.bytesAt s.pc) = .ok (.ldSpN16 0xFFFE, []) := ⟨rfl, rfl, rfl⟩

/-- The same through an MMU whose answers are given. -/
theorem witness_StepRunsTheDecodedInstruction_external :
    let s := State.launch zeros (.external [0x31, 0xFE, 0xFF] [])
    s.fault = none ∧ s.halted = false ∧ decode (s.bytesAt s.pc) = .ok (.ldSpN16 0xFFFE, []) := ⟨rfl, rfl, rfl⟩

theorem witness_StepRunsTheLookahead :
    let s := primed zeros [] [0x41] false false
    s.fault = none ∧ s.halted = false ∧ s.next = some (recordOf 0x0200 .ldBC) := ⟨rfl, rfl, rfl⟩

/-- Each of the five ways an effect's call goes on: faulted; an illegal byte next; no service; a service; a service onto an illegal byte. -/
theorem witness_OrderOfEventsAfterAnEffect :
    let decoded := fun (t : State) => t.decodeAt referenceTables t.pc
    let controlled := fun (t : State) => handleInterrupts ((t.afterDecode referenceTables t.pc).withNext (recordOf 0x0200 .nop))
    (State.reset.raise (.notPrimed 0x0100)).fault ≠ none ∧
    (let t := { primed zeros [(0x0200, 0xD3)] [] false false with fault := none }
     t.fault = none ∧ decoded t = .error (.illegalOpcode 0x0200 0xD3 false)) ∧
    (let t := primed zeros [(0xFFFF, 0x1F)] [0x00] true false
     t.fault = none ∧ decoded t = .ok (recordOf 0x0200 .nop) ∧ (controlled t).1 = false) ∧
    (let t := primed zeros [(0xFFFF, 0x1F), (0xFF0F, 0x10)] [0x00] true false
     t.fault = none ∧ decoded t = .ok (recordOf 0x0200 .nop) ∧ (controlled t).1 = true ∧
       decoded (controlled t).2 = .ok (recordOf 0x0060 .nop)) ∧
    (let t := primed zeros [(0xFFFF, 0x1F), (0xFF0F, 0x01), (0x0040, 0xFD)] [0x00] true false
     t.fault = none ∧ decoded t = .ok (recordOf 0x0200 .nop) ∧ (controlled t).1 = true ∧
       decoded (controlled t).2 = .error (.illegalOpcode 0x0040 0xFD false)) :=
  ⟨by decide, ⟨rfl, rfl⟩, ⟨rfl, rfl, rfl⟩, ⟨rfl, rfl, rfl, rfl⟩, rfl, rfl, rfl, rfl⟩

theorem witness_FaultedAndUnprimedCalls :
    (State.reset.raise (.notPrimed 0x0100)).fault = some (.notPrimed 0x0100) ∧ State.reset.fault = none ∧ State.reset.next = none := by
  decide

/-- A halted call that wakes and services, and an executing call. -/
theorem witness_ReturnValueOfACall :
    (let s := primed zeros [(0xFFFF, 0x02), (0xFF0F, 0x02)] [0x00] true true
     s.halted = true ∧ ∃ t, step s = .next t ∧ t.fault = none) ∧
    (let s := primed zeros [] [0x41] false false
     s.halted = false ∧ s.next = some (recordOf 0x0200 .ldBC) ∧ (∃ t, step s = .next t ∧ t.fault = none) ∧
       ∃ u, exec (recordOf 0x0200 .ldBC).instr (s.beginCall.promote (recordOf 0x0200 .ldBC)) = .next u) :=
  ⟨⟨rfl, next_of_after (by decide)⟩, rfl, rfl, next_of_after (by decide), _, rfl⟩

/-- A call that ends without a fault and one that ends with STOP's. -/
theorem witness_RunModeAfterACall :
    (∃ t, step ((primed zeros [] [0x00] false false).setRunMode .singleStep) = .next t ∧ t.fault = none) ∧
    (∃ t, step ((primed zeros [] [0x10, 0x00] false false).setRunMode .singleStep) = .next t ∧ t.fault ≠ none) :=
  ⟨next_of_after (by decide), _, rfl, by decide⟩

/-- A fresh lookahead before a store to the next instruction's own byte; before a halted call that wakes with no service; before one that
services. -/
theorem witness_LookaheadSeesEveryStoreOfTheCall :
    (let s := primed { zeros with a := 0x3C, h := 0x02, l := 0x01 } [] [0x77, 0x00] false false
     s.mmu.isSimulator = true ∧ s.fault = none ∧ s.LookaheadIsFresh referenceTables ∧ ∃ t, step s = .next t ∧ t.fault = none) ∧
    (let s := primed zeros [(0xFFFF, 0x04), (0xFF0F, 0x04)] [0x00] false true
     s.halted = true ∧ s.LookaheadIsFresh referenceTables ∧ ∃ t, step s = .next t ∧ t.fault = none) ∧
    (let s := primed zeros [(0xFFFF, 0x04), (0xFF0F, 0x04)] [0x00] true true
     s.halted = true ∧ s.LookaheadIsFresh referenceTables ∧ ∃ t, step s = .next t ∧ t.fault = none) := by
  have fresh : ∀ (s : State) (p : ParsedInstruction), s.next = some p → s.decodeAt referenceTables s.pc = .ok p →
      s.LookaheadIsFresh referenceTables := by
    intro s p hp hd _ _ q hq
    rw [hp] at hq
    cases hq
    exact hd
  exact ⟨⟨rfl, rfl, fresh _ (recordOf 0x0200 (.ldIndReg .a)) rfl rfl, next_of_after (by decide)⟩,
    ⟨rfl, fresh _ (recordOf 0x0200 .nop) rfl rfl, next_of_after (by decide)⟩,
    rfl, fresh _ (recordOf 0x0200 .nop) rfl rfl, next_of_after (by decide)⟩

theorem witness_PrimingFillsTheLookahead :
    (let s := State.launch zeros (.simulator [(0x0200, 0x41)])
     s.fault = none ∧ decode (s.bytesAt s.pc) = .ok (.ldBC, [0x00, 0x00])) ∧
    (let s := State.launch { zeros with pc := 0xFFFF } (.simulator [(0xFFFF, 0xFD)])
     s.fault = none ∧ declaredLen (s.peek s.pc) = 0) := ⟨⟨rfl, rfl⟩, rfl, rfl⟩

/-- The table of R400, for the witnesses. -/
def sourceTable : List (Source × Byte × Word) :=
  [(.vblank, 0x01, 0x0040), (.lcdStat, 0x02, 0x0048), (.timer, 0x04, 0x0050), (.serial, 0x08, 0x0058), (.joypad, 0x10, 0x0060)]

/-- The first row of the table whose IE bit and IF bit are both 1. -/
def selectedRow (s : State) : Option (Source × Byte × Word) :=
  sourceTable.find? (fun x => s.peek 0xFFFF &&& x.2.1 != 0 && s.peek 0xFF0F &&& x.2.1 != 0)

/-- The highest and the lowest source, and one in between whose higher ones are masked or not pending; for the IF clause, a push that misses IF,
and one that lands on it. -/
theorem witness_ServiceOfTheSelectedSource :
    (let s := primed zeros [(0xFFFF, 0x1F), (0xFF0F, 0x1F)] [0x00] true false
     s.mmu.isSimulator = true ∧ s.ime = true ∧ selectedRow s = some (.vblank, 0x01, 0x0040) ∧ s.sp - 1 ≠ 0xFF0F ∧ s.sp - 2 ≠ 0xFF0F) ∧
    (let s := primed { zeros with sp := 0xFF10 } [(0xFFFF, 0x10), (0xFF0F, 0x1F)] [0x00] true false
     s.mmu.isSimulator = true ∧ s.ime = true ∧ selectedRow s = some (.joypad, 0x10, 0x0060)) ∧
    (let s := primed zeros [(0xFFFF, 0x1D), (0xFF0F, 0x1E)] [0x00] true false
     s.mmu.isSimulator = true ∧ s.ime = true ∧ selectedRow s = some (.timer, 0x04, 0x0050)) := by decide

theorem witness_LowerPrioritySourcesStayPending :
    let s : State := { State.launch zeros (.simulator [(0xFF0F, 0x1F), (0xFFFF, 0x18)]) with ime := true }
    s.mmu.isSimulator = true ∧ s.ime = true ∧ selectedRow s = some (.serial, 0x08, 0x0058) ∧
      (∀ a ∈ [s.sp - 1, s.sp - 2], a ≠ 0xFFFF ∧ a ≠ 0xFF0F) ∧ Source.joypad ≠ Source.serial := by
  refine ⟨rfl, rfl, by decide, ?_, by decide⟩
  intro a h
  simp only [State.launch, zeros, List.mem_cons, List.not_mem_nil, or_false] at h
  rcases h with rfl | rfl <;> decide

/-- A firable source, none, and an MMU that is not the simulator. -/
theorem witness_WakeWithoutService :
    (let s := primed zeros [(0xFFFF, 0x10), (0xFF0F, 0x10)] [0x00] false true
     s.fault = none ∧ s.next = some (recordOf 0x0200 .nop) ∧ s.halted = true ∧ s.ime = false ∧ s.mmu.isSimulator = true ∧
       s.firable .joypad = true) ∧
    (let s := primed zeros [(0xFFFF, 0xEF), (0xFF0F, 0xF0)] [0x00] false true
     s.fault = none ∧ s.next = some (recordOf 0x0200 .nop) ∧ s.halted = true ∧ s.ime = false ∧ s.mmu.isSimulator = true ∧
       ∀ k ∈ Source.inPriorityOrder, s.firable k = false) ∧
    (let s := { onAnswers zeros [0x00, 0x01, 0x01] with halted := true }
     s.fault = none ∧ s.next = some (recordOf 0x0200 .nop) ∧ s.halted = true ∧ s.ime = false) :=
  ⟨⟨rfl, rfl, rfl, rfl, rfl, rfl⟩, ⟨rfl, rfl, rfl, rfl, rfl, by decide⟩, rfl, rfl, rfl, rfl⟩

theorem witness_NormalEndIsStable :
    let s := primed zeros [(0xFFFF, 0xE0), (0xFF0F, 0xFF)] [0x00] true true
    s.mmu.isSimulator = true ∧ s.next = some (recordOf 0x0200 .nop) ∧ s.endedNormally = true := ⟨rfl, rfl, rfl⟩

/-- A hang (R464): `JR -2` for ever, from the state one call after its launch, which each further call answers unchanged. -/
theorem witness_hang : RunHangs referenceTables (playMove referenceTables (runStart [0x18, 0xFE]) .call) (fun _ => .call) := by
  have fixed : playMove referenceTables (playMove referenceTables (runStart [0x18, 0xFE]) .call) .call
      = playMove referenceTables (runStart [0x18, 0xFE]) .call := by decide
  have going : (playMove referenceTables (runStart [0x18, 0xFE]) .call).goneWrong = false ∧
      (playMove referenceTables (runStart [0x18, 0xFE]) .call).endedNormally = false := by decide
  generalize playMove referenceTables (runStart [0x18, 0xFE]) .call = s at fixed going
  intro n
  have calls : firstMoves (fun _ => .call) n = List.replicate n RunMove.call := by simp [firstMoves, List.map_const']
  rw [calls]; clear calls
  induction n with
  | zero => simp [runOutcome, going]
  | succ n ih => simpa [List.replicate_succ, runOutcome, fixed, going] using ih

theorem witness_LaunchMeetsTheInvariant :
    (Mmu.simulator []).wf = true ∧ (Mmu.simulator [(0, 0x01), (65535, 0xFF)]).wf = true ∧ (Mmu.external [0x00] []).wf = true := by decide

/-- A primed state that is not reset, and a step and a host move from it. -/
theorem witness_EveryTransitionKeepsTheInvariant :
    let s := primed zeros [] [0x41] false false
    s.Inv ∧ ∃ t, step s = .next t := by
  refine ⟨⟨rfl, rfl, ?_, ?_, ?_⟩, _, rfl⟩
  · intro p h; cases h
  · intro p h
    obtain rfl : recordOf 0x0200 .ldBC = p := Option.some.inj h
    exact ⟨.ldBC, rfl, rfl⟩
  · intro _ p h
    obtain rfl : recordOf 0x0200 .ldBC = p := Option.some.inj h
    rfl

theorem witness_StepsStopOnlyWithTheRecordedFault :
    State.reset.fault = none ∧ (State.reset.raise (.notPrimed 0x0100)).fault = some (.notPrimed 0x0100) := by decide

theorem witness_HostMovesWriteOnlyWhatTheyName :
    State.reset.mmu.isSimulator = true ∧ (State.reset.hostWrite 0xFFFF 0x01).mmu.isSimulator = true ∧ Source.joypad ≠ Source.vblank := by decide

/-- The premise that the MMU is the simulator, wherever a clause of a statement has it (`Stored`, `KeepsAllBut`, ControllerSelectsTheFirstFirableSource,
ReturnRestoresWhatServiceSaved): before and after a store. -/
theorem witness_isSimulator : (withF 0x00).mmu.isSimulator = true ∧ ((withF 0x00).push16 0x1234).mmu.isSimulator = true := by decide
end Sys2Proof.Machine.Tests
end

section
/-! PROOFS. What one call runs (40_pipeline.md rules R112 to R114): the equations of `cycle` on an unfaulted core that holds a lookahead, and the
statements of 00_scope.md. -/

namespace Sys2Proof.Machine

/-- An unfaulted core's call is the call of the record in its lookahead (R111, R112). -/
theorem cycle_of_next {T : InstrTables} {s : State} {p : ParsedInstruction} (hf : s.fault = none) (hn : s.next = some p) :
    cycle T s = s.executeNext T p := by
  simp only [cycle, hf, hn]

/-- A call on a core that is not halted promotes the record, runs its effect, and goes on from there (R112 to R115). -/
theorem State.executeNext_of_running {T : InstrTables} {s : State} {p : ParsedInstruction} (hh : s.halted = false) :
    s.executeNext T p =
      match runEffect T p (s.beginCall.promote p) with
      | .next t    => .next (t.afterEffect T)
      | .fault x   => .fault x
      | .refused x => .refused x := by
  unfold State.executeNext
  exact if_neg (by simp [hh])

/-- Settles O42: the equations of a running call, and for a step the meaning of the reference tables' effects. -/
theorem stepRunsTheLookahead : Obligations.StepRunsTheLookahead := by
  intro s p hf hh hn u
  have anyTables (T : InstrTables) : cycle T s =
      match runEffect T p u with
      | .next t    => .next (t.afterEffect T)
      | .fault x   => .fault x
      | .refused x => .refused x :=
    (cycle_of_next hf hn).trans (State.executeNext_of_running hh)
  refine ⟨anyTables, ?_⟩
  rw [← runEffect_referenceTables]
  exact anyTables referenceTables

end Sys2Proof.Machine
end

section
/-! PROOFS. The reference table's entries and their encodings (30_encoding.md rules R80 to R88): an entry that decode selects is well formed and
encodes as the bytes it was selected by, so the record that `decode(a)` answers is the record of the instruction at `a`. -/

namespace Sys2Proof

/-! ### The entries by length -/

/-- The opcodes of declared length 2, 0xCB apart (R82, R95). -/
def twoByteOpcodes : List Byte :=
  [0x06, 0x0E, 0x10, 0x16, 0x18, 0x1E, 0x20, 0x26, 0x28, 0x2E, 0x30, 0x36, 0x38, 0x3E, 0xC6, 0xCE, 0xD6, 0xDE, 0xE0, 0xE6, 0xE8, 0xEE,
   0xF0, 0xF6, 0xF8, 0xFE]

/-- The opcodes of declared length 3 (R82, R95). -/
def threeByteOpcodes : List Byte :=
  [0x01, 0x08, 0x11, 0x21, 0x31, 0xC2, 0xC3, 0xC4, 0xCA, 0xCC, 0xCD, 0xD2, 0xD4, 0xDA, 0xDC, 0xEA, 0xFA]

theorem mem_twoByteOpcodes : ∀ op : Byte, op ≠ Config.prefixByte → declaredLen op = 2 → op ∈ twoByteOpcodes := by decide

theorem mem_threeByteOpcodes : ∀ op : Byte, declaredLen op = 3 → op ∈ threeByteOpcodes := by decide

theorem prefixEntry_encodes : ∀ op : Byte,
    encode (prefixEntry op) = [Config.prefixByte, op] ∧ WellFormed (prefixEntry op) = true := by decide

theorem baseEntry_encodes_one : ∀ op : Byte, declaredLen op = 1 →
    encode (baseEntry op 0 0) = [op] ∧ WellFormed (baseEntry op 0 0) = true := by decide

theorem baseEntry_encodes_two {op : Byte} (hp : op ≠ Config.prefixByte) (hl : declaredLen op = 2) (lo : Byte) :
    encode (baseEntry op lo 0) = [op, lo] ∧ WellFormed (baseEntry op lo 0) = true := by
  have row : ∀ op ∈ twoByteOpcodes, encode (baseEntry op lo 0) = [op, lo] ∧ WellFormed (baseEntry op lo 0) = true := by
    simp only [twoByteOpcodes, List.forall_mem_cons, List.not_mem_nil, false_imp_iff, implies_true, and_true]
    and_intros <;> rfl
  exact row op (mem_twoByteOpcodes op hp hl)

theorem baseEntry_encodes_three {op : Byte} (hl : declaredLen op = 3) (lo hi : Byte) :
    encode (baseEntry op lo hi) = [op, lo, hi] ∧ WellFormed (baseEntry op lo hi) = true := by
  have row : ∀ op ∈ threeByteOpcodes, encode (baseEntry op lo hi) = [op, lowByte (joinBytes hi lo), highByte (joinBytes hi lo)] ∧
      WellFormed (baseEntry op lo hi) = true := by
    simp only [threeByteOpcodes, List.forall_mem_cons, List.not_mem_nil, false_imp_iff, implies_true, and_true]
    and_intros <;> rfl
  simpa using row op (mem_threeByteOpcodes op hl)

namespace Machine

/-! ### The record of an instruction from its bytes -/

theorem recordOf_prefixed {i : Instr} {op : Byte} (h : encode i = [Config.prefixByte, op]) (a : Word) :
    recordOf a i = { addr := a, prefixed := true, opcode := op, lo := 0, hi := 0, imm16 := 0, len := 2,
                     defn := { prefixed := true, index := op } } := by
  simp [recordOf, opcodeOf, immediatesOf, Instr.length, h, joinBytes]

theorem recordOf_base {i : Instr} {op : Byte} {imm : List Byte} (h : encode i = op :: imm) (hp : op ≠ Config.prefixByte) (a : Word) :
    recordOf a i = { addr := a, prefixed := false, opcode := op, lo := imm.getD 0 0, hi := imm.getD 1 0,
                     imm16 := joinBytes (imm.getD 1 0) (if imm.length = 2 then imm.getD 0 0 else 0), len := declaredLen op,
                     defn := { prefixed := false, index := op } } := by
  have hop : opcodeOf i = op := by unfold opcodeOf; rw [h]; cases imm <;> simp [hp]
  simp [recordOf, hop, immediatesOf, Instr.length, h, hp]

/-! ### `decode(a)` with the reference tables (R84) -/

/-- What `decode(a)` answers where the bytes at `a` decode: the record of that instruction, which is well formed (R84 to R86). -/
theorem State.decodeAt_of_decode {s : State} {a : Word} {i : Instr} {rest : List Byte} (h : decode (s.bytesAt a) = .ok (i, rest)) :
    s.decodeAt referenceTables a = .ok (recordOf a i) ∧ WellFormed i = true := by
  unfold State.bytesAt decode at h
  unfold State.decodeAt State.fetchAt
  dsimp only [referenceTables] at h ⊢
  split_ifs at h with hp h1 h2 h3 <;> simp only [Except.ok.injEq, Prod.mk.injEq] at h <;> obtain ⟨rfl, -⟩ := h
  · obtain ⟨he, hw⟩ := prefixEntry_encodes ((s.noteRead a).peek (a + 1))
    exact ⟨by rw [recordOf_prefixed he]; simp [hp], hw⟩
  · obtain ⟨he, hw⟩ := baseEntry_encodes_one _ h1
    exact ⟨by rw [recordOf_base he hp]; simp [hp, h1, joinBytes], hw⟩
  · obtain ⟨he, hw⟩ := baseEntry_encodes_two hp h2 ((s.noteRead a).peek (a + 1))
    exact ⟨by rw [recordOf_base he hp]; simp [hp, h2, joinBytes], hw⟩
  · obtain ⟨he, hw⟩ := baseEntry_encodes_three h3 ((s.noteRead a).peek (a + 1)) (((s.noteRead a).noteRead (a + 1)).peek (a + 2))
    exact ⟨by rw [recordOf_base he hp]; simp [hp, h3], hw⟩

/-- What `decode(a)` raises at a byte whose entry has no legal length (R87). -/
theorem State.decodeAt_of_illegal {s : State} {a : Word} (hp : s.peek a ≠ Config.prefixByte)
    (hl : declaredLen (s.peek a) = 0 ∨ 3 < declaredLen (s.peek a)) :
    s.decodeAt referenceTables a = .error (.illegalOpcode a (s.peek a) false) := by
  simp [State.decodeAt, State.fetchAt, referenceTables, hp, hl]

/-- Every record that `decode(a)` answers is the record of a well-formed instruction at `a`. -/
theorem State.decodeAt_wellFormed {s : State} {a : Word} {p : ParsedInstruction} (h : s.decodeAt referenceTables a = .ok p) :
    p.wellFormed := by
  rcases decode_three_bytes (s.peek a) ((s.noteRead a).peek (a + 1)) (((s.noteRead a).noteRead (a + 1)).peek (a + 2)) with
    ⟨i, rest, hd⟩ | ⟨-, hp, h1, h2, h3⟩
  · obtain ⟨hr, hw⟩ := State.decodeAt_of_decode hd
    obtain rfl : recordOf a i = p := Except.ok.inj (hr.symm.trans h)
    exact ⟨i, hw, rfl⟩
  · rw [State.decodeAt_of_illegal hp (by omega)] at h
    cases h

end Machine
end Sys2Proof
end

section
/-! PROOFS. What one effect can do (40_pipeline.md rule R114), said once over all instructions: an effect is ordinary, or it raises a fault, or it is
HALT, DI, EI or RETI. -/

namespace Sys2Proof.Machine

/-- What an ordinary effect leaves: it writes registers and `pc`, writes F only with bits 3..0 clear (R24), and reaches the MMU through recorded
accesses alone (R53); everything else is as it was. -/
structure PlainEffect (s t : State) : Prop where
  f        : t.f = s.f ∨ t.f &&& 0x0F = 0
  ime      : t.ime = s.ime
  halted   : t.halted = s.halted
  runMode  : t.runMode = s.runMode
  current  : t.current = s.current
  next     : t.next = s.next
  fault    : t.fault = s.fault
  accesses : ∃ es, Accesses s t es

namespace PlainEffect

variable {s t u : State}

theorem refl (s : State) : PlainEffect s s := ⟨.inl rfl, rfl, rfl, rfl, rfl, rfl, rfl, [], .refl s⟩

theorem trans (h : PlainEffect s t) (h' : PlainEffect t u) : PlainEffect s u where
  f := h'.f.elim (fun e => h.f.imp e.trans (e ▸ ·)) .inr
  ime := h'.ime.trans h.ime
  halted := h'.halted.trans h.halted
  runMode := h'.runMode.trans h.runMode
  current := h'.current.trans h.current
  next := h'.next.trans h.next
  fault := h'.fault.trans h.fault
  accesses :=
    have ⟨es, he⟩ := h.accesses
    have ⟨fs, hf⟩ := h'.accesses
    ⟨es ++ fs, he.trans hf⟩

/-! One rule per operation that effects are made of. -/

theorem done (h : PlainEffect s t) (n : Nat) : PlainEffect s (t.done n) :=
  h.trans ⟨.inl rfl, rfl, rfl, rfl, rfl, rfl, rfl, [], (Accesses.refl t).congr rfl rfl⟩

theorem jump (h : PlainEffect s t) (x : Word) : PlainEffect s (t.jump x) :=
  h.trans ⟨.inl rfl, rfl, rfl, rfl, rfl, rfl, rfl, [], (Accesses.refl t).congr rfl rfl⟩

theorem setF (h : PlainEffect s t) (v : Byte) : PlainEffect s (t.setF v) :=
  h.trans ⟨.inr (masked_lowNibble v), rfl, rfl, rfl, rfl, rfl, rfl, [], (Accesses.refl t).congr rfl rfl⟩

theorem setFlags (h : PlainEffect s t) (g : Flags) : PlainEffect s (t.setFlags g) := h.setF g.toByte

theorem setReg (h : PlainEffect s t) (r : Reg8) (v : Byte) : PlainEffect s (t.setReg r v) :=
  h.trans ⟨.inl (by simp), by simp, by simp, by simp, by simp, by simp, by simp, [], (Accesses.refl t).congr (by simp) (by simp)⟩

theorem setPair (h : PlainEffect s t) (p : Pair) (v : Word) : PlainEffect s (t.setPair p v) :=
  h.trans ⟨.inl (by simp), by simp, by simp, by simp, by simp, by simp, by simp, [], (Accesses.refl t).congr (by simp) (by simp)⟩

theorem setStackPair (h : PlainEffect s t) (p : StackPair) (v : Word) : PlainEffect s (t.setStackPair p v) := by
  cases p with
  | bc => exact h.setPair .bc v
  | de => exact h.setPair .de v
  | hl => exact h.setPair .hl v
  | af => exact (h.setReg .a (highByte v)).setF (lowByte v)

theorem postUpdate (h : PlainEffect s t) (m : MemOperand) : PlainEffect s (t.postUpdate m) := by
  cases m with
  | hlInc => exact h.setPair .hl _
  | hlDec => exact h.setPair .hl _
  | bc | de | hl | absolute | high | highC => exact h

theorem noteRead (h : PlainEffect s t) (a : Word) : PlainEffect s (t.noteRead a) :=
  h.trans ⟨.inl rfl, rfl, rfl, rfl, rfl, rfl, rfl, _, (Accesses.refl t).noteRead a⟩

theorem memWrite (h : PlainEffect s t) (a : Word) (v : Byte) : PlainEffect s (t.memWrite a v) :=
  h.trans ⟨.inl rfl, rfl, rfl, rfl, rfl, rfl, rfl, _, (Accesses.refl t).memWrite a v⟩

theorem aluWith (h : PlainEffect s t) (op : AluOp) (v : Byte) : PlainEffect s (t.aluWith op v) := (h.setReg .a _).setFlags _

theorem push16 (h : PlainEffect s t) (v : Word) : PlainEffect s (t.push16 v) :=
  ((h.memWrite (t.sp - 1) (highByte v)).memWrite (t.sp - 2) (lowByte v)).setPair .sp (t.sp - 2)

theorem afterPop (h : PlainEffect s t) : PlainEffect s t.afterPop :=
  ((h.noteRead t.sp).noteRead (t.sp + 1)).setPair .sp (t.sp + 2)

theorem call (h : PlainEffect s t) (x : Word) : PlainEffect s (t.call x) := (h.push16 t.pc).jump x

theorem popToPc (h : PlainEffect s t) : PlainEffect s t.popToPc := h.afterPop.jump t.topOfStack

end PlainEffect

/-- Every way an effect of the reference table ends. -/
inductive EffectOutcome (s : State) : Instr → State → Prop where
  | plain {i : Instr} {t : State} (h : PlainEffect s t) : EffectOutcome s i t
  | raised {i : Instr} (x : Fault) : EffectOutcome s i (s.raise x)
  | halt : EffectOutcome s .halt (State.done { s with halted := true } 4)
  | di : EffectOutcome s .di (State.done { s with ime := false } 4)
  | ei : EffectOutcome s .ei (State.done { s with ime := true } 4)
  | reti : EffectOutcome s .reti (s.returnFromInterrupt.done 16)

/-- `exec i s` answers a next state that is one of the outcomes. -/
def HasOutcome (s : State) (i : Instr) : Prop := ∃ t, exec i s = .next t ∧ EffectOutcome s i t

section
variable {s t : State} {i : Instr}

theorem HasOutcome.of_plain (he : exec i s = .next t) (h : PlainEffect s t) : HasOutcome s i := ⟨t, he, .plain h⟩

/-- A conditional effect is ordinary when both its branches are. -/
theorem HasOutcome.of_ite {u : State} {c : Bool} (he : exec i s = if c then .next t else .next u) (ht : PlainEffect s t)
    (hu : PlainEffect s u) : HasOutcome s i := by
  cases c with
  | true => exact .of_plain he ht
  | false => exact .of_plain he hu

theorem HasOutcome.of_loadRegMem {r : Reg8} {m : MemOperand} {n : Nat} (he : exec i s = loadRegMem r m n s) : HasOutcome s i :=
  .of_plain he (((((PlainEffect.refl s).noteRead _).setReg r _).postUpdate m).done n)

theorem HasOutcome.of_storeMem {m : MemOperand} {v : Byte} {n : Nat} (he : exec i s = storeMem m v n s) : HasOutcome s i :=
  .of_plain he ((((PlainEffect.refl s).memWrite _ v).postUpdate m).done n)

theorem HasOutcome.of_rotateAcc {op : ShiftOp} (he : exec i s = rotateAcc op s) : HasOutcome s i :=
  .of_plain he ((((PlainEffect.refl s).setReg .a _).setFlags _).done 4)

end

/-- The effect of every instruction, in every state. -/
theorem exec_hasOutcome (i : Instr) (s : State) : HasOutcome s i := by
  have here := PlainEffect.refl s
  cases i using Instr.byFamily with
  | ldPairImm p n => exact .of_plain (exec_ldPairImm p n s) ((here.setPair p n).done 12)
  | incPair p => exact .of_plain (exec_incPair p s) ((here.setPair p _).done 8)
  | decPair p => exact .of_plain (exec_decPair p s) ((here.setPair p _).done 8)
  | addHlPair p => exact .of_plain (exec_addHlPair p s) (((here.setPair .hl _).setFlags _).done 8)
  | incReg r => exact .of_plain (exec_incReg r s) (((here.setReg r _).setFlags _).done 4)
  | decReg r => exact .of_plain (exec_decReg r s) (((here.setReg r _).setFlags _).done 4)
  | ldRegImm r n => exact .of_plain (exec_ldRegImm r n s) ((here.setReg r n).done 8)
  | ldRegReg r r' => exact .of_plain (exec_ldRegReg r r' s) ((here.setReg r _).done 4)
  | ldRegInd r => exact .of_loadRegMem (exec_ldRegInd r s)
  | ldIndReg r => exact .of_storeMem (exec_ldIndReg r s)
  | aluReg op r => exact .of_plain (exec_aluReg op r s) ((here.aluWith op _).done 4)
  | aluInd op => exact .of_plain (exec_aluInd op s) (((here.noteRead _).aluWith op _).done 8)
  | aluImm op n => exact .of_plain (exec_aluImm op n s) ((here.aluWith op n).done 8)
  | jrIf cc n => exact .of_ite (exec_jrIf cc n s) ((here.jump _).done 12) (here.done 8)
  | jpIf cc n => exact .of_ite (exec_jpIf cc n s) ((here.jump n).done 16) (here.done 12)
  | callIf cc n => exact .of_ite (exec_callIf cc n s) ((here.call n).done 24) (here.done 12)
  | retIf cc => exact .of_ite (exec_retIf cc s) (here.popToPc.done 20) (here.done 8)
  | popPair p => exact .of_plain (exec_popPair p s) ((here.afterPop.setStackPair p _).done 12)
  | pushPair p => exact .of_plain (exec_pushPair p s) ((here.push16 _).done 16)
  | rst x => exact .of_plain (exec_rst x s) ((here.call _).done 16)
  | illegal x => cases x <;> exact ⟨_, rfl, .raised _⟩
  | shiftReg op r => exact .of_plain (exec_shiftReg op r s) (((here.setReg r _).setFlags _).done 8)
  | shiftInd op => exact .of_plain (exec_shiftInd op s) ((((here.noteRead _).memWrite _ _).setFlags _).done 16)
  | bitReg b r => exact .of_plain (exec_bitReg b r s) ((here.setFlags _).done 8)
  | bitInd b => exact .of_plain (exec_bitInd b s) (((here.noteRead _).setFlags _).done 12)
  | resReg b r => exact .of_plain (exec_resReg b r s) ((here.setReg r _).done 8)
  | resInd b => exact .of_plain (exec_resInd b s) (((here.noteRead _).memWrite _ _).done 16)
  | setReg b r => exact .of_plain (exec_setReg b r s) ((here.setReg r _).done 8)
  | setInd b => exact .of_plain (exec_setInd b s) (((here.noteRead _).memWrite _ _).done 16)
  | nop => exact .of_plain (exec_nop s) (here.done 4)
  | stop n => exact ⟨_, exec_stop n s, .raised _⟩
  | prefixCb => exact ⟨_, exec_prefixCb s, .raised _⟩
  | rlca => exact .of_rotateAcc (exec_rlca s)
  | rrca => exact .of_rotateAcc (exec_rrca s)
  | rla => exact .of_rotateAcc (exec_rla s)
  | rra => exact .of_rotateAcc (exec_rra s)
  | ldAIndBc => exact .of_loadRegMem (exec_ldAIndBc s)
  | ldAIndDe => exact .of_loadRegMem (exec_ldAIndDe s)
  | ldAIndHli => exact .of_loadRegMem (exec_ldAIndHli s)
  | ldAIndHld => exact .of_loadRegMem (exec_ldAIndHld s)
  | ldhAIndN8 n => exact .of_loadRegMem (exec_ldhAIndN8 n s)
  | ldAIndC => exact .of_loadRegMem (exec_ldAIndC s)
  | ldAIndN16 n => exact .of_loadRegMem (exec_ldAIndN16 n s)
  | ldIndBcA => exact .of_storeMem (exec_ldIndBcA s)
  | ldIndDeA => exact .of_storeMem (exec_ldIndDeA s)
  | ldIndHliA => exact .of_storeMem (exec_ldIndHliA s)
  | ldIndHldA => exact .of_storeMem (exec_ldIndHldA s)
  | ldIndHlN8 n => exact .of_storeMem (exec_ldIndHlN8 n s)
  | ldhIndN8A n => exact .of_storeMem (exec_ldhIndN8A n s)
  | ldIndCA => exact .of_storeMem (exec_ldIndCA s)
  | ldIndN16A n => exact .of_storeMem (exec_ldIndN16A n s)
  | ldIndN16Sp n => exact .of_plain (exec_ldIndN16Sp n s) (((here.memWrite n _).memWrite (n + 1) _).done 20)
  | daa => exact .of_plain rfl (((here.setReg .a _).setFlags _).done 4)
  | cpl => exact .of_plain (exec_cpl s) (((here.setReg .a _).setFlags _).done 4)
  | scf => exact .of_plain (exec_scf s) ((here.setFlags _).done 4)
  | ccf => exact .of_plain (exec_ccf s) ((here.setFlags _).done 4)
  | incIndHl => exact .of_plain (exec_incIndHl s) ((((here.noteRead _).memWrite _ _).setFlags _).done 12)
  | decIndHl => exact .of_plain (exec_decIndHl s) ((((here.noteRead _).memWrite _ _).setFlags _).done 12)
  | jrE8 e => exact .of_plain (exec_jrE8 e s) ((here.jump _).done 12)
  | jpN16 n => exact .of_plain (exec_jpN16 n s) ((here.jump n).done 16)
  | jpHl => exact .of_plain (exec_jpHl s) ((here.jump _).done 4)
  | callN16 n => exact .of_plain (exec_callN16 n s) ((here.call n).done 24)
  | ret => exact .of_plain (exec_ret s) (here.popToPc.done 16)
  | addSpE8 e => exact .of_plain (exec_addSpE8 e s) (((here.setPair .sp _).setFlags _).done 16)
  | ldHlSpE8 e => exact .of_plain (exec_ldHlSpE8 e s) (((here.setPair .hl _).setFlags _).done 12)
  | ldSpHl => exact .of_plain (exec_ldSpHl s) ((here.setPair .sp _).done 8)
  | halt => exact ⟨_, exec_halt s, .halt⟩
  | di => exact ⟨_, exec_di s, .di⟩
  | ei => exact ⟨_, exec_ei s, .ei⟩
  | reti => exact ⟨_, exec_reti s, .reti⟩

/-- An effect that answers a next state has one of the outcomes. -/
theorem effectOutcome_of_exec {i : Instr} {s t : State} (h : exec i s = .next t) : EffectOutcome s i t := by
  obtain ⟨u, hu, ho⟩ := exec_hasOutcome i s
  obtain rfl : u = t := Host.Outcome.next.inj (hu.symm.trans h)
  exact ho

/-- Settles O40, by the outcomes of an effect: an ordinary effect and a raised fault keep both bits. -/
theorem onlyNamedInstructionsWriteImeAndHalted : Obligations.OnlyNamedInstructionsWriteImeAndHalted := by
  intro i s t h
  cases effectOutcome_of_exec h with
  | plain h => exact ⟨.inl h.ime, .inl h.halted⟩
  | raised x => exact ⟨.inl rfl, .inl rfl⟩
  | halt => exact ⟨.inl rfl, .inr ⟨rfl, rfl⟩⟩
  | di => exact ⟨.inr (.inr ⟨rfl, rfl⟩), .inl rfl⟩
  | ei => exact ⟨.inr (.inl ⟨rfl, .inl rfl⟩), .inl rfl⟩
  | reti => exact ⟨.inr (.inl ⟨rfl, .inr rfl⟩), .inl rfl⟩

end Sys2Proof.Machine
end

section
/-! PROOFS. The lookahead (10_state.md rule R31; 40_pipeline.md rules R115, R117, R127): every decode of a call and priming make it what the bytes at
`pc` decode to, and what follows the last decode keeps that. -/

namespace Sys2Proof.Machine

/-! ### The interrupt step -/

/-- An interrupt step without a service makes reads, may wake the core, and does nothing else. -/
theorem handleInterrupts_of_false {s u : State} (h : handleInterrupts s = (false, u)) :
    ∃ es halted, (∀ e ∈ es, ∃ a v, e = BusEvent.read a v) ∧
      u = { s with halted := halted, mmu := s.mmu.afterAccesses es, trace := s.trace ++ es } := by
  obtain ⟨es, hes, hc⟩ := handleInterrupts_cases s
  have reads : ∀ e ∈ es, ∃ a v, e = BusEvent.read a v := fun e he => (hes e he).elim fun v hv => hv.elim (⟨_, v, ·⟩) (⟨_, v, ·⟩)
  rcases hc with ⟨-, hc⟩ | ⟨k, -, -, hc⟩ | ⟨k, -, -, hc⟩ <;> cases hc.symm.trans h
  · exact ⟨es, s.halted, reads, rfl⟩
  · exact ⟨es, false, reads, rfl⟩

/-- An interrupt step that services makes reads, wakes the core and services a source. -/
theorem handleInterrupts_of_true {s u : State} (h : handleInterrupts s = (true, u)) :
    ∃ es k, u = (State.wake { s with mmu := s.mmu.afterAccesses es, trace := s.trace ++ es }).serviceInterrupt k := by
  obtain ⟨es, -, hc⟩ := handleInterrupts_cases s
  rcases hc with ⟨-, hc⟩ | ⟨k, -, -, hc⟩ | ⟨k, -, -, hc⟩ <;> cases hc.symm.trans h
  exact ⟨es, k, rfl⟩

/-! ### Freshness -/

section
variable {T : InstrTables} {s t : State}

/-- Of a faulted core nothing is asked. -/
theorem State.lookaheadIsFresh_of_fault (h : s.fault ≠ none) : s.LookaheadIsFresh T := fun _ hf => absurd hf h

/-- Freshness depends on `next`, `pc`, `fault` and the simulator's bytes alone. -/
theorem State.LookaheadIsFresh.congr (h : s.LookaheadIsFresh T) (hk : t.mmu.isSimulator = s.mmu.isSimulator)
    (hm : s.mmu.isSimulator = true → t.mmu = s.mmu) (hf : t.fault = s.fault) (hn : t.next = s.next) (hpc : t.pc = s.pc) :
    t.LookaheadIsFresh T := by
  intro hs ht p hp
  rw [hk] at hs
  rw [hpc, State.decodeAt_eq_of_mmu T (hm hs)]
  exact h hs (hf ▸ ht) p (hn ▸ hp)

/-- A decode into `next` makes it fresh: with the simulator MMU the decode's reads can be made again (R60, R115). -/
theorem State.fetchNext_isFresh (T : InstrTables) (s : State) : (s.fetchNext T).LookaheadIsFresh T := by
  rcases State.fetchNext_cases T s with ⟨p, hd, he⟩ | ⟨x, -, he⟩
  · intro hs _ q hq
    obtain rfl : p = q := by simpa [he] using hq
    rw [State.fetchNext_pc, State.decodeAt_eq_of_mmu T (State.fetchNext_mmu T (by simpa using hs))]
    exact hd
  · exact State.lookaheadIsFresh_of_fault (by simp [he])

theorem State.LookaheadIsFresh.demote (h : s.LookaheadIsFresh T) : s.demote.LookaheadIsFresh T :=
  h.congr rfl (fun _ => rfl) rfl rfl rfl

theorem State.LookaheadIsFresh.andThen {go : State → State} (h : s.LookaheadIsFresh T) (hgo : (go s).LookaheadIsFresh T) :
    (s.andThen go).LookaheadIsFresh T := by
  unfold State.andThen
  split
  · exact hgo
  · exact h

/-- The end of a call keeps freshness: without a service it writes no byte of the simulator, after one it decodes again (R117). -/
theorem State.LookaheadIsFresh.finishCall (h : s.LookaheadIsFresh T) : (s.finishCall T).LookaheadIsFresh T := by
  rcases hi : handleInterrupts s with ⟨_ | _, u⟩
  · rw [State.finishCall_of_false hi]
    obtain ⟨es, halted, hes, rfl⟩ := handleInterrupts_of_false hi
    exact State.LookaheadIsFresh.demote
      (h.congr (Mmu.isSimulator_afterAccesses ..) (fun hs => Mmu.afterAccesses_reads hs hes) rfl rfl rfl)
  · rw [State.finishCall_of_true hi]
    have fresh := State.fetchNext_isFresh T u
    exact fresh.andThen fresh.demote

/-- After an effect the lookahead is decoded at the new `pc`, whatever the effect wrote (R115). -/
theorem State.afterEffect_isFresh (T : InstrTables) (s : State) : (s.afterEffect T).LookaheadIsFresh T := by
  rcases State.afterEffect_cases T s with ⟨hf, he⟩ | ⟨-, x, -, he⟩ | ⟨-, p, hd, he⟩ <;> rw [he]
  · exact State.lookaheadIsFresh_of_fault hf
  · exact State.lookaheadIsFresh_of_fault (by simp)
  · rw [← State.fetchNext_of_ok hd]
    exact (State.fetchNext_isFresh T s).finishCall

theorem State.LookaheadIsFresh.beginCall (h : s.LookaheadIsFresh T) : s.beginCall.LookaheadIsFresh T :=
  h.congr rfl (fun _ => rfl) rfl rfl rfl

/-- Every call that answers a next state keeps freshness. -/
theorem State.LookaheadIsFresh.cycle (h : s.LookaheadIsFresh T) (hc : cycle T s = .next t) : t.LookaheadIsFresh T := by
  obtain ⟨-, ⟨-, rfl⟩ | ⟨p, -, -, rfl⟩ | ⟨p, u, -, -, -, rfl⟩⟩ := cycle_next_cases hc
  · exact State.lookaheadIsFresh_of_fault (by simp)
  · exact h.beginCall.finishCall
  · exact State.afterEffect_isFresh T u

end

/-! ### Priming (R127) -/

theorem State.prime_of_fault {T : InstrTables} {s : State} (h : s.fault ≠ none) : s.prime T = s :=
  if_neg (by simpa using h)

theorem State.prime_of_none {T : InstrTables} {s : State} (h : s.fault = none) :
    s.prime T = State.fetchNext T { s with trace := [], result := none } :=
  if_pos (by simp [h])

theorem State.prime_isFresh (T : InstrTables) (s : State) : (s.prime T).LookaheadIsFresh T := by
  by_cases hf : s.fault = none
  · rw [State.prime_of_none hf]
    exact State.fetchNext_isFresh T _
  · rw [State.prime_of_fault hf]
    exact State.lookaheadIsFresh_of_fault hf

/-- Settles O47: each decode of a call makes the lookahead fresh, and what follows the last one keeps it. -/
theorem lookaheadSeesEveryStoreOfTheCall : Obligations.LookaheadSeesEveryStoreOfTheCall :=
  ⟨fun _ _ _ => State.LookaheadIsFresh.cycle, fun _ _ => State.LookaheadIsFresh.cycle, State.prime_isFresh⟩

/-- What `fetchNext` writes but `next`: nothing, where decode answers a record (R115). -/
theorem State.fetchNext_keeps {T : InstrTables} {s : State} {p : ParsedInstruction} (h : s.decodeAt T s.pc = .ok p) :
    KeepsAllBut {} { s with next := some p } (s.fetchNext T) := by
  rw [State.fetchNext_of_ok h]
  refine ⟨fun r _ => by cases r <;> simp [State.reg], by simp, by simp, by simp, by simp, by simp, fun hs a _ => ?_, by simp, by simp,
    by simp, by simp⟩
  exact (State.peek_withNext ..).trans (State.peek_eq_of_mmu (State.afterDecode_mmu (s := s) T hs s.pc) a)

/-- Settles O48: `prime()` is the decode at `pc`, with the calls' outputs cleared. -/
theorem primingFillsTheLookahead : Obligations.PrimingFillsTheLookahead := by
  intro s hf
  dsimp only
  rw [State.prime_of_none hf]
  refine ⟨fun i rest hd => ?_, fun hl => ?_⟩
  · obtain ⟨hr, -⟩ := State.decodeAt_of_decode (s := { s with trace := [], result := none }) hd
    exact ⟨by rw [State.fetchNext_of_ok hr, State.withNext_next], State.fetchNext_keeps hr⟩
  · have hp : s.peek s.pc ≠ Config.prefixByte := by
      intro hp
      rw [hp] at hl
      exact absurd hl (by decide)
    have hr := State.decodeAt_of_illegal (s := { s with trace := [], result := none }) (a := s.pc) hp (.inl hl)
    rw [State.fetchNext_of_error hr]
    exact ⟨rfl, by simp⟩

end Sys2Proof.Machine
end
section
/-! PROOFS. The invariant of the machine (10_state.md rules R24, R30, R31): it holds at launch, and every step and every move of the host keeps it. -/

namespace Sys2Proof.Machine

/-- The part of the invariant that does not speak of `pc`. It holds also inside a call, where `pc` has moved on and `next` has not. -/
structure State.InvInCall (s : State) : Prop where
  memory    : s.mmu.wf = true
  lowNibble : s.f &&& 0x0F = 0
  current   : ∀ p, s.current = some p → p.wellFormed
  next      : ∀ p, s.next = some p → p.wellFormed

section
variable {s t : State}

theorem State.Inv.inCall (h : s.Inv) : s.InvInCall := ⟨h.memory, h.lowNibble, h.current, h.next⟩

theorem State.InvInCall.inv (h : s.InvInCall) (hl : s.fault = none → ∀ p, s.next = some p → p.addr = s.pc) : s.Inv :=
  ⟨h.memory, h.lowNibble, h.current, h.next, hl⟩

theorem State.InvInCall.inv_of_fault (h : s.InvInCall) (hf : s.fault ≠ none) : s.Inv := h.inv fun h0 => absurd h0 hf

theorem State.InvInCall.congr (h : s.InvInCall) (hm : t.mmu.wf = true) (hf : t.f = s.f) (hc : t.current = s.current)
    (hn : t.next = s.next) : t.InvInCall :=
  ⟨hm, hf ▸ h.lowNibble, hc ▸ h.current, hn ▸ h.next⟩

theorem State.Inv.congr (h : s.Inv) (hm : t.mmu.wf = true) (hf : t.f = s.f) (hc : t.current = s.current) (hn : t.next = s.next)
    (hx : t.fault = s.fault) (hpc : t.pc = s.pc) : t.Inv :=
  (h.inCall.congr hm hf hc hn).inv (hx ▸ hn ▸ hpc ▸ h.lookahead)

/-! ### The parts of a call -/

theorem State.Inv.promote (h : s.Inv) {p : ParsedInstruction} (hp : s.next = some p) : (s.promote p).InvInCall :=
  ⟨h.memory, h.lowNibble, fun _ hq => Option.some.inj hq ▸ h.next p hp, h.next⟩

theorem State.InvInCall.plainEffect (h : s.InvInCall) (he : PlainEffect s t) : t.InvInCall := by
  obtain ⟨es, hes⟩ := he.accesses
  exact ⟨hes.wf h.memory, he.f.elim (· ▸ h.lowNibble) id, he.current ▸ h.current, he.next ▸ h.next⟩

/-- Every effect keeps the invariant, `pc` apart. -/
theorem State.InvInCall.exec {i : Instr} (h : s.InvInCall) (he : exec i s = .next t) : t.InvInCall := by
  cases effectOutcome_of_exec he with
  | plain hp => exact h.plainEffect hp
  | raised x | halt | di | ei => exact h.congr h.memory rfl rfl rfl
  | reti => exact h.congr (by simpa using h.memory) (by simp) (by simp) (by simp)

/-- A decode into `next` makes `next` the record at `pc`, or ends the call with a fault. -/
theorem State.InvInCall.fetchNext (h : s.InvInCall) : (s.fetchNext referenceTables).Inv := by
  have hm : (s.afterDecode referenceTables s.pc).mmu.wf = true := by simpa using h.memory
  rcases State.fetchNext_cases referenceTables s with ⟨p, hd, he⟩ | ⟨x, -, he⟩ <;> rw [he]
  · have atPc : ∀ q, some p = some q → q.wellFormed ∧ q.addr = s.pc := by
      rintro q ⟨⟩
      exact ⟨State.decodeAt_wellFormed hd, State.decodeAt_addr hd⟩
    exact ⟨hm, by simpa using h.lowNibble, by simpa using h.current, fun q hq => (atPc q hq).1,
      fun _ q hq => by simpa using (atPc q hq).2⟩
  · exact State.InvInCall.inv_of_fault (h.congr hm (by simp) (by simp) (by simp)) (by simp)

theorem State.Inv.demote (h : s.Inv) : s.demote.Inv := h.congr h.memory rfl rfl rfl rfl rfl

theorem State.Inv.andThen {go : State → State} (h : s.Inv) (hgo : (go s).Inv) : (s.andThen go).Inv := by
  unfold State.andThen
  split
  · exact hgo
  · exact h

theorem State.wf_serviceInterrupt (h : s.mmu.wf = true) (k : Source) : (s.serviceInterrupt k).mmu.wf = true := by
  rw [State.serviceInterrupt_mmu]
  exact Mmu.wf_afterWrite _ _ (Mmu.wf_afterWrite _ _ (Mmu.wf_afterWrite _ _ (by simpa using h)))

theorem State.Inv.finishCall (h : s.Inv) : (s.finishCall referenceTables).Inv := by
  rcases hi : handleInterrupts s with ⟨_ | _, u⟩
  · rw [State.finishCall_of_false hi]
    obtain ⟨es, halted, -, rfl⟩ := handleInterrupts_of_false hi
    exact State.Inv.demote (h.congr (Mmu.wf_afterAccesses es h.memory) rfl rfl rfl rfl rfl)
  · rw [State.finishCall_of_true hi]
    obtain ⟨es, k, rfl⟩ := handleInterrupts_of_true hi
    have hm := State.wf_serviceInterrupt (s := State.wake { s with mmu := s.mmu.afterAccesses es, trace := s.trace ++ es })
      (Mmu.wf_afterAccesses es h.memory) k
    have decoded := (h.inCall.congr hm (by simp) (by simp) (by simp)).fetchNext
    exact decoded.andThen decoded.demote

theorem State.InvInCall.afterEffect (h : s.InvInCall) : (s.afterEffect referenceTables).Inv := by
  rcases State.afterEffect_cases referenceTables s with ⟨hf, he⟩ | ⟨-, x, hd, he⟩ | ⟨-, p, hd, he⟩ <;> rw [he]
  · exact h.inv_of_fault hf
  · rw [← State.fetchNext_of_error hd]
    exact h.fetchNext
  · rw [← State.fetchNext_of_ok hd]
    exact h.fetchNext.finishCall

theorem State.Inv.beginCall (h : s.Inv) : s.beginCall.Inv := h.congr h.memory rfl rfl rfl rfl rfl

/-! ### Steps and host moves -/

theorem State.Inv.step (h : s.Inv) (hs : step s = .next t) : t.Inv := by
  obtain ⟨-, ⟨-, rfl⟩ | ⟨p, -, -, rfl⟩ | ⟨p, u, hn, -, he, rfl⟩⟩ := cycle_next_cases hs
  · exact State.InvInCall.inv_of_fault (h.inCall.congr h.memory rfl rfl rfl) (by simp)
  · exact h.beginCall.finishCall
  · rw [runEffect_referenceTables] at he
    exact ((h.beginCall.promote hn).exec he).afterEffect

theorem State.Inv.prime (h : s.Inv) : (s.prime referenceTables).Inv := by
  by_cases hf : s.fault = none
  · rw [State.prime_of_none hf]
    exact State.InvInCall.fetchNext (h.inCall.congr h.memory rfl rfl rfl)
  · rw [State.prime_of_fault hf]
    exact h

theorem State.Inv.hostAct (h : s.Inv) (x : HostAction) : (hostAct referenceTables x s).Inv := by
  cases x with
  | prime => exact h.prime
  | setRunMode m => exact h.congr h.memory rfl rfl rfl rfl rfl
  | writeByte a v => exact h.congr (Mmu.wf_afterDeviceWrite a v h.memory) rfl rfl rfl rfl rfl
  | requestInterrupt k => exact h.congr (Mmu.wf_afterRequest k h.memory) rfl rfl rfl rfl rfl
  | advanceDevices n => exact h.congr ((Mmu.wf_afterAdvance s.mmu n).trans h.memory) rfl rfl rfl rfl rfl

end

/-- Settles O57, part by part of a call and host move by host move. -/
theorem everyTransitionKeepsTheInvariant : Obligations.EveryTransitionKeepsTheInvariant :=
  fun _ h => ⟨fun _ => h.step, h.hostAct⟩

/-! ### Launch -/

theorem State.launch_inv (r : InitRegs) {m : Mmu} (hm : m.wf = true) : (State.launch r m).Inv :=
  ⟨hm, masked_lowNibble r.f, nofun, nofun, nofun⟩

/-- Settles O56: F is stored masked, and both slots are empty. -/
theorem launchMeetsTheInvariant : Obligations.LaunchMeetsTheInvariant :=
  ⟨fun r _ => State.launch_inv r, State.launch_inv InitRegs.postBootDMG rfl⟩

end Sys2Proof.Machine
end

section
/-! PROOFS. What every effect keeps of the pipeline (20_memory.md rules R50, R53; 40_pipeline.md rule R114): read off the outcomes of an effect. -/

namespace Sys2Proof.Machine

/-- RETI's effect on the MMU is the two recorded reads of its pop (R123, R340). -/
theorem State.accesses_returnFromInterrupt (s : State) : ∃ es, Accesses s s.returnFromInterrupt es :=
  have ⟨es, hes⟩ := (PlainEffect.refl s).popToPc.accesses
  ⟨es, hes.congr rfl rfl⟩

/-- Settles O39, by the outcomes of an effect: raising a fault, HALT, DI and EI make no access, and RETI makes its pop's. -/
theorem effectsKeepThePipelineState : Obligations.EffectsKeepThePipelineState := by
  intro i s t h
  have unaccessed : Accesses s s [] := .refl s
  cases effectOutcome_of_exec h with
  | plain h => exact ⟨h.current, h.next, h.runMode, .inl h.fault, h.accesses⟩
  | raised x => exact ⟨rfl, rfl, rfl, .inr ⟨x, rfl⟩, [], unaccessed.congr rfl rfl⟩
  | halt | di | ei => exact ⟨rfl, rfl, rfl, .inl rfl, [], unaccessed.congr rfl rfl⟩
  | reti =>
    obtain ⟨es, hes⟩ := s.accesses_returnFromInterrupt
    exact ⟨by simp, by simp, by simp, .inl (by simp), es, hes.congr rfl rfl⟩

end Sys2Proof.Machine
end

section
/-! PROOFS. The encoding (30_encoding.md rules R80 to R97): decode and encode are inverse, through the one relation they share, which says what bytes
select what instruction; which bytes decode rejects; what reads it makes; and the rows it never answers. -/

namespace Sys2Proof

open Machine (lowByte_joinBytes highByte_joinBytes joinBytes_high_low)

/-! ### What bytes select what instruction -/

/-- The bytes of one instruction and the table entry they select, with its immediates in place (R80, R81, R84, R86). -/
inductive Selects : List Byte → Instr → Prop
  | prefixed (op : Byte) : Selects [Config.prefixByte, op] (prefixEntry op)
  | one {op : Byte} (hl : declaredLen op = 1) : Selects [op] (baseEntry op 0 0)
  | two {op : Byte} (hp : op ≠ Config.prefixByte) (hl : declaredLen op = 2) (lo : Byte) : Selects [op, lo] (baseEntry op lo 0)
  | three {op : Byte} (hl : declaredLen op = 3) (lo hi : Byte) : Selects [op, lo, hi] (baseEntry op lo hi)

theorem ne_prefixByte_of_declaredLen {op : Byte} (h : declaredLen op ≠ 2) : op ≠ Config.prefixByte := by
  rintro rfl
  exact h rfl

/-- Decode answers what the bytes select, whatever follows them. -/
theorem Selects.decode_append {bytes : List Byte} {i : Instr} (h : Selects bytes i) (rest : List Byte) :
    decode (bytes ++ rest) = .ok (i, rest) := by
  cases h with
  | prefixed op => rfl
  | @one op hl =>
    have hp : op ≠ Config.prefixByte := ne_prefixByte_of_declaredLen (by omega)
    simp [decode, hp, hl]
  | two hp hl lo => simp [decode, hp, hl]
  | @three op hl lo hi =>
    have hp : op ≠ Config.prefixByte := ne_prefixByte_of_declaredLen (by omega)
    simp [decode, hp, hl]

/-- Decode answers only what the bytes at the head of the list select. -/
theorem selects_of_decode {bytes rest : List Byte} {i : Instr} (h : decode bytes = .ok (i, rest)) :
    ∃ head, Selects head i ∧ head ++ rest = bytes := by
  unfold decode at h
  split at h
  · cases h
  next op tail =>
    split_ifs at h with hp h1 h2 h3
    · subst hp
      split at h <;> cases h
      exact ⟨_, .prefixed _, rfl⟩
    · cases h
      exact ⟨_, .one h1, rfl⟩
    · split at h <;> cases h
      exact ⟨_, .two hp h2 _, rfl⟩
    · split at h <;> cases h
      exact ⟨_, .three h3 _ _, rfl⟩

/-- An entry that some bytes select is well formed, and the encoder writes those bytes. -/
theorem Selects.encodes {bytes : List Byte} {i : Instr} (h : Selects bytes i) : encode i = bytes ∧ WellFormed i = true := by
  cases h with
  | prefixed op => exact prefixEntry_encodes op
  | one hl => exact baseEntry_encodes_one _ hl
  | two hp hl lo => exact baseEntry_encodes_two hp hl lo
  | three hl lo hi => exact baseEntry_encodes_three hl lo hi

/-- The three-byte case, by the 16-bit immediate (R86). -/
theorem Selects.word {op : Byte} (hl : declaredLen op = 3) (n : Word) :
    Selects [op, lowByte n, highByte n] (entryAt (baseTable (lowByte n) n) op .prefixCb) := by
  have h := Selects.three hl (lowByte n) (highByte n)
  rwa [baseEntry, joinBytes_high_low] at h

/-- The bytes that the encoder writes for a well-formed instruction select it: row by row of the two tables (R83, R89 to R95). -/
theorem selects_encode {i : Instr} (h : WellFormed i = true) : Selects (encode i) i := by
  cases i using Instr.byFamily with
  -- the rows that are not well formed (R88, R96)
  | prefixCb => cases h
  | illegal x => cases x <;> cases h
  -- the prefixed rows (R94)
  | shiftReg x r | bitReg x r | resReg x r | setReg x r => cases x <;> cases r <;> exact .prefixed _
  | shiftInd x | bitInd x | resInd x | setInd x => cases x <;> exact .prefixed _
  -- the base rows without an immediate (R90 to R93)
  | ldRegReg x r | aluReg x r => cases x <;> cases r <;> exact .one rfl
  | incPair x | decPair x | addHlPair x | popPair x | pushPair x | incReg x | decReg x | ldRegInd x | ldIndReg x | aluInd x | retIf x
  | rst x => cases x <;> exact .one rfl
  | nop | ldIndBcA | rlca | ldAIndBc | rrca | ldIndDeA | rla | ldAIndDe | rra | ldIndHliA | daa | ldAIndHli | cpl | ldIndHldA | incIndHl
  | decIndHl | scf | ldAIndHld | ccf | halt | ret | reti | ldIndCA | jpHl | ldAIndC | di | ldSpHl | ei => exact .one rfl
  -- the base rows with an immediate byte (R95)
  | ldRegImm x n | jrIf x n | aluImm x n => cases x <;> exact .two (by decide) rfl n
  | stop n | jrE8 n | ldIndHlN8 n | ldhIndN8A n | addSpE8 n | ldhAIndN8 n | ldHlSpE8 n => exact .two (by decide) rfl n
  -- the base rows with an immediate word (R86, R95)
  | ldPairImm x n | jpIf x n | callIf x n => cases x <;> exact .word rfl n
  | ldIndN16Sp n | jpN16 n | callN16 n | ldIndN16A n | ldAIndN16 n => exact .word rfl n

/-- Settles O1: the encoder's bytes select the instruction, and decode answers what bytes select. -/
theorem decodeOfEncodeIsTheInstruction : Obligations.DecodeOfEncodeIsTheInstruction :=
  fun _ rest h => (selects_encode h).decode_append rest

/-- Settles O2: decode answers what the bytes at the head select, and the encoder writes those. -/
theorem encodeOfDecodedIsTheBytes : Obligations.EncodeOfDecodedIsTheBytes := by
  intro bytes rest i h
  obtain ⟨head, hs, rfl⟩ := selects_of_decode h
  obtain ⟨he, hw⟩ := hs.encodes
  exact ⟨hw, by rw [he]⟩

theorem Instr.length_of_prefixed {i : Instr} {op : Byte} (h : encode i = [Config.prefixByte, op]) : i.length = 2 := by
  simp [Instr.length, h]

/-- Settles O4: the prefixed table has an entry for every byte, 0xCB itself among them. -/
theorem byteAfterThePrefixSelectsAPrefixedEntry : Obligations.ByteAfterThePrefixSelectsAPrefixedEntry := by
  intro op rest
  have selected := Selects.prefixed op
  obtain ⟨he, -⟩ := selected.encodes
  exact ⟨prefixEntry op, selected.decode_append rest, he, Instr.length_of_prefixed he⟩

/-- Settles O6, word by word. -/
theorem wordsWrittenFromTheSpecDecode : Obligations.WordsWrittenFromTheSpecDecode := by
  unfold Obligations.WordsWrittenFromTheSpecDecode
  decide

/-! ### The bytes that decode rejects (R87, R96) -/

theorem declaredLen_le_three : ∀ op : Byte, declaredLen op ≤ 3 := by decide

theorem declaredLen_eq_zero_iff : ∀ op : Byte,
    declaredLen op = 0 ↔ op ∈ [0xD3, 0xDB, 0xDD, 0xE3, 0xE4, 0xEB, 0xEC, 0xED, 0xF4, 0xFC, 0xFD] := by decide

/-- Decode rejects a byte by name exactly where its entry has no legal length, whatever follows (R87). -/
theorem decode_eq_illegalOpcode_iff (op : Byte) (rest : List Byte) :
    decode (op :: rest) = .error (.illegalOpcode op) ↔ declaredLen op = 0 := by
  constructor
  · intro h
    have hle := declaredLen_le_three op
    simp only [decode] at h
    split_ifs at h with hp h1 h2 h3
    · split at h <;> cases h
    · split at h <;> cases h
    · split at h <;> cases h
    · omega
  · intro h
    have hp : op ≠ Config.prefixByte := ne_prefixByte_of_declaredLen (by omega)
    simp [decode, hp, h]

theorem not_wellFormed_illegal (x : IllegalByte) : WellFormed (.illegal x) = false := by cases x <;> rfl

namespace Machine

/-! ### The reads of decode through the MMU (R85, R87) -/

section
variable {T : InstrTables} {s : State} {a : Word}

theorem State.afterDecode_of_prefixed (hp : s.peek a = Config.prefixByte) : s.afterDecode T a = (s.noteRead a).noteRead (a + 1) := by
  simp [State.afterDecode, State.fetchAt, hp]

theorem State.afterDecode_of_two (hp : s.peek a ≠ Config.prefixByte) (hl : (T.base (s.peek a)).len = 2) :
    s.afterDecode T a = (s.noteRead a).noteRead (a + 1) := by
  simp [State.afterDecode, State.fetchAt, hp, hl]

theorem State.afterDecode_of_three (hp : s.peek a ≠ Config.prefixByte) (hl : (T.base (s.peek a)).len = 3) :
    s.afterDecode T a = ((s.noteRead a).noteRead (a + 1)).noteRead (a + 2) := by
  simp [State.afterDecode, State.fetchAt, hp, hl]

/-- An entry of length 1 and an illegal one: the opcode alone is read. -/
theorem State.afterDecode_of_single (hp : s.peek a ≠ Config.prefixByte) (h2 : (T.base (s.peek a)).len ≠ 2)
    (h3 : (T.base (s.peek a)).len ≠ 3) : s.afterDecode T a = s.noteRead a := by
  unfold State.afterDecode State.fetchAt
  dsimp only
  rw [if_neg hp]
  split_ifs
  · rfl
  · rfl
  · omega

/-- With any tables, an illegal base byte raises after its one read (R87). -/
theorem State.decodeAt_of_illegalLength (hp : s.peek a ≠ Config.prefixByte)
    (hl : (T.base (s.peek a)).len = 0 ∨ 3 < (T.base (s.peek a)).len) :
    s.decodeAt T a = .error (.illegalOpcode a (s.peek a) false) ∧ s.afterDecode T a = s.noteRead a :=
  ⟨by simp [State.decodeAt, State.fetchAt, hp, hl], State.afterDecode_of_single hp (by omega) (by omega)⟩

end

/-- From `s` to `t` the accesses `es` were made and nothing else changed. -/
structure OnlyAccesses (s t : State) (es : List BusEvent) : Prop where
  frame    : KeepsAllBut {} s t
  result   : t.result = s.result
  accesses : Accesses s t es

namespace OnlyAccesses

theorem refl (s : State) : OnlyAccesses s s [] := ⟨.refl {} s, rfl, .refl s⟩

theorem noteRead {s t : State} {es : List BusEvent} (h : OnlyAccesses s t es) (a : Word) :
    OnlyAccesses s (t.noteRead a) (es ++ [.read a (t.peek a)]) :=
  ⟨h.frame.noteRead h.accesses.isSimulator a, h.result, h.accesses.noteRead a⟩

end OnlyAccesses

/-- Settles O3: the eleven bytes are those of length 0, and any table's illegal lengths are treated alike. -/
theorem elevenIllegalBytesAreRejected : Obligations.ElevenIllegalBytesAreRejected := by
  intro op
  refine ⟨declaredLen_eq_zero_iff op, decode_eq_illegalOpcode_iff op, ?_, ?_⟩
  · rintro s a rfl hl
    exact State.decodeAt_of_illegalLength (ne_prefixByte_of_declaredLen (by omega)) (.inl hl)
  · rintro T s a rfl hp hl
    exact State.decodeAt_of_illegalLength hp hl

/-- Settles O5, by the four ways decode reads: after 0xCB, and by length 2, length 3 and any other. -/
theorem decodeReadsExactlyTheInstructionsBytes : Obligations.DecodeReadsExactlyTheInstructionsBytes := by
  intro T s a b r0 r1 r2 t
  have one : OnlyAccesses s (s.noteRead a) [r0] := (OnlyAccesses.refl s).noteRead a
  have two : OnlyAccesses s ((s.noteRead a).noteRead (a + 1)) [r0, r1] := one.noteRead (a + 1)
  have three : OnlyAccesses s (((s.noteRead a).noteRead (a + 1)).noteRead (a + 2)) [r0, r1, r2] := two.noteRead (a + 2)
  have reads : OnlyAccesses s (s.afterDecode T a)
      (if b = 0xCB then [r0, r1]
       else if (T.base b).len = 2 then [r0, r1]
       else if (T.base b).len = 3 then [r0, r1, r2]
       else [r0]) := by
    split_ifs with hp h2 h3
    · rw [State.afterDecode_of_prefixed hp]
      exact two
    · rw [State.afterDecode_of_two hp h2]
      exact two
    · rw [State.afterDecode_of_three hp h3]
      exact three
    · rw [State.afterDecode_of_single hp h2 h3]
      exact one
  exact ⟨reads.frame, reads.result, reads.accesses, fun _ => rfl⟩

/-! ### The rows that decode never answers, and entries with no valid effect (R87, R114, R355, R356) -/

theorem State.currentAddr_of_current {s : State} {p : ParsedInstruction} (h : s.current = some p) (len : Nat) :
    s.currentAddr len = p.addr := by
  simp [State.currentAddr, h]

/-- An illegal row is one illegal byte, and its effect is to raise with that byte. -/
theorem illegal_row (x : IllegalByte) :
    ∃ op, encode (.illegal x) = [op] ∧ declaredLen op = 0 ∧ ∀ s, exec (.illegal x) s = raiseIllegal op 0 s := by
  cases x <;> exact ⟨_, rfl, rfl, fun _ => rfl⟩

theorem raiseIllegal_of_current {s : State} {p : ParsedInstruction} (h : s.current = some p) (op : Byte) (len : Nat) :
    raiseIllegal op len s = .next (s.raise (.illegalOpcode p.addr op false)) := by
  rw [raiseIllegal, State.currentAddr_of_current h]

theorem runEffect_of_none {T : InstrTables} {p : ParsedInstruction} (h : (T.entry p.defn).effect = none) (s : State) :
    runEffect T p s = .next (s.raise (.illegalOpcode p.addr p.opcode p.prefixed)) := by
  unfold runEffect
  rw [h]

/-- A fault of the effect ends the call (R111). -/
theorem State.afterEffect_of_fault {T : InstrTables} {s : State} (h : s.fault ≠ none) : s.afterEffect T = s := by
  simp [State.afterEffect, State.andThen, h]

/-- Settles O37: decode answers well-formed rows only, and a dispatch with no valid effect ends the call with its fault. -/
theorem undispatchedEntriesRaiseIllegalOpcode : Obligations.UndispatchedEntriesRaiseIllegalOpcode := by
  refine ⟨fun s p hc => ⟨fun x => ?_, ?_, fun bytes rest i hd => ?_⟩, fun T s p hf hh hn he => ?_⟩
  · obtain ⟨op, hop, hl, hx⟩ := illegal_row x
    exact ⟨op, hop, hl, (hx s).trans (raiseIllegal_of_current hc op 0)⟩
  · exact (exec_prefixCb s).trans (raiseIllegal_of_current hc 0xCB 2)
  · obtain ⟨hw, -⟩ := encodeOfDecodedIsTheBytes bytes rest i hd
    constructor
    · rintro rfl
      cases hw
    · rintro x rfl
      exact Bool.false_ne_true ((not_wellFormed_illegal x).symm.trans hw)
  · rw [cycle_of_next hf hn, State.executeNext_of_running hh, runEffect_of_none he]
    exact congrArg Host.Outcome.next (State.afterEffect_of_fault (Option.some_ne_none _))

end Machine
end Sys2Proof
end

section
/-! PROOFS. What an effect and a step answer (40_pipeline.md rules R114, R120; 60_exceptions.md rules R415, R416): an effect returns the cycles of
the opcode table or raises a fault, and a step stops with the recorded fault alone. -/

namespace Sys2Proof.Machine

/-! ### The cycles that an effect returns -/

/-- `exec i s` ends by returning the cycles that the opcode table gives `i` in `s` (R114, R462). -/
def ReturnsTableCycles (s : State) (i : Instr) : Prop := ∃ t : State, exec i s = .next (t.done (tableCycles i s))

/-- A conditional effect returns the taken count exactly when its condition holds. -/
theorem ReturnsTableCycles.of_ite {s t u : State} {i : Instr} {cc : Cond} {n m : Nat}
    (he : exec i s = if s.cond cc then .next (t.done n) else .next (u.done m)) (hc : tableCycles i s = if s.cond cc then n else m) :
    ReturnsTableCycles s i := by
  unfold ReturnsTableCycles
  rw [he, hc]
  cases s.cond cc with
  | true => exact ⟨t, rfl⟩
  | false => exact ⟨u, rfl⟩

/-- Every effect but STOP's returns the cycles of its row. -/
theorem returnsTableCycles {i : Instr} (s : State) (hw : WellFormed i = true) (hs : ∀ n, i ≠ .stop n) : ReturnsTableCycles s i := by
  cases i using Instr.byFamily with
  | stop n => exact absurd rfl (hs n)
  -- the rows that are not well formed (R88, R96)
  | prefixCb => cases hw
  | illegal x => cases x <;> cases hw
  -- the conditional rows (R92)
  | jrIf cc n => exact .of_ite (exec_jrIf cc n s) (by cases cc <;> rfl)
  | jpIf cc n => exact .of_ite (exec_jpIf cc n s) (by cases cc <;> rfl)
  | callIf cc n => exact .of_ite (exec_callIf cc n s) (by cases cc <;> rfl)
  | retIf cc => exact .of_ite (exec_retIf cc s) (by cases cc <;> rfl)
  -- the unconditional families
  | ldRegReg x r | aluReg x r | shiftReg x r | bitReg x r | resReg x r | setReg x r => cases x <;> cases r <;> exact ⟨_, rfl⟩
  | ldPairImm x _ | ldRegImm x _ | aluImm x _ | incPair x | decPair x | addHlPair x | incReg x | decReg x | ldRegInd x | ldIndReg x
  | aluInd x | popPair x | pushPair x | rst x | shiftInd x | bitInd x | resInd x | setInd x => cases x <;> exact ⟨_, rfl⟩
  -- the unconditional single rows
  | nop | rlca | rrca | rla | rra | daa | cpl | scf | ccf | incIndHl | decIndHl | jrE8 | jpN16 | jpHl | callN16 | ret | reti | halt | di
  | ei | addSpE8 | ldHlSpE8 | ldSpHl | ldIndN16Sp | ldIndHlN8 | ldAIndBc | ldAIndDe | ldAIndHli | ldAIndHld | ldhAIndN8 | ldAIndC
  | ldAIndN16 | ldIndBcA | ldIndDeA | ldIndHliA | ldIndHldA | ldhIndN8A | ldIndCA | ldIndN16A => exact ⟨_, rfl⟩

/-- An effect that returns cycles raises no fault. -/
theorem fault_of_exec_cycles {i : Instr} {s t : State} {n : Nat} (h : exec i s = .next t) (hr : t.result = some (.cycles n)) :
    t.fault = s.fault := by
  cases effectOutcome_of_exec h with
  | plain hp => exact hp.fault
  | raised x => cases hr
  | halt | di | ei => rfl
  | reti => simp

/-- Settles O38: the effect returns its row's cycles, so it raised nothing. -/
theorem everyInstructionReturnsItsTableCycles : Obligations.EveryInstructionReturnsItsTableCycles := by
  intro i s hw hs
  obtain ⟨t, he⟩ := returnsTableCycles s hw hs
  exact ⟨_, he, fault_of_exec_cycles he rfl, rfl⟩

/-! ### How a step stops -/

/-- An unfaulted core that was never primed raises that and makes no access (R120). -/
theorem cycle_of_unprimed {T : InstrTables} {s : State} (hf : s.fault = none) (hn : s.next = none) :
    cycle T s = .next (s.beginCall.raise (.notPrimed s.pc)) := by
  simp only [cycle, hf, hn]

/-- An unfaulted core's step answers a next state, whatever the call does: every effect answers one. -/
theorem step_next_of_fault_none {s : State} (hf : s.fault = none) : ∃ t, step s = .next t := by
  cases hn : s.next with
  | none => exact ⟨_, cycle_of_unprimed hf hn⟩
  | some p =>
    unfold step
    rw [cycle_of_next hf hn]
    cases hh : s.halted with
    | true => exact ⟨_, if_pos hh⟩
    | false =>
      obtain ⟨u, hu, -⟩ := exec_hasOutcome p.instr (s.beginCall.promote p)
      rw [State.executeNext_of_running hh, runEffect_referenceTables, hu]
      exact ⟨_, rfl⟩

/-- Settles O58: the recorded fault is the one that stops a step, and a core without one goes on. -/
theorem stepsStopOnlyWithTheRecordedFault : Obligations.StepsStopOnlyWithTheRecordedFault := by
  intro s
  cases hf : s.fault with
  | some x =>
    have stops : step s = .fault x := cycle_of_fault hf
    simp [stops]
  | none =>
    obtain ⟨t, goesOn⟩ := step_next_of_fault_none hf
    simp [goesOn]

/-- Settles O44: a recorded fault answers the call; an empty lookahead raises before any access (R120). -/
theorem faultedAndUnprimedCalls : Obligations.FaultedAndUnprimedCalls :=
  fun _ => ⟨fun _ => cycle_of_fault, cycle_of_unprimed⟩

end Sys2Proof.Machine
end

section
/-! PROOFS. What follows an effect in a call (40_pipeline.md rules R111 to R119): the order of decode, the interrupt step and the second decode, and
what they make of the call's result and of the run mode. -/

namespace Sys2Proof.Machine

/-! ### The order of events (R111, R115, R117) -/

section
variable {T : InstrTables} {s : State}

/-- The lookahead decode's fault ends the call before the interrupt step (R417). -/
theorem State.afterEffect_of_error {x : Fault} (hf : s.fault = none) (hd : s.decodeAt T s.pc = .error x) :
    s.afterEffect T = (s.afterDecode T s.pc).raise x := by
  rw [State.afterEffect, State.andThen_of_none hf, State.fetchNext_of_error hd]
  exact State.andThen_of_some rfl

/-- After a lookahead decode that answers a record comes the end of the call. -/
theorem State.afterEffect_of_ok {p : ParsedInstruction} (hf : s.fault = none) (hd : s.decodeAt T s.pc = .ok p) :
    s.afterEffect T = ((s.afterDecode T s.pc).withNext p).finishCall T := by
  rw [State.afterEffect, State.andThen_of_none hf, State.fetchNext_of_ok hd]
  exact State.andThen_of_none (by simpa using hf)

/-- Whether a source was serviced or not, the interrupt step writes neither the fault, nor the result, nor the run mode. -/
theorem handleInterrupts_keeps {serviced : Bool} {u : State} (h : handleInterrupts s = (serviced, u)) :
    u.fault = s.fault ∧ u.result = s.result ∧ u.runMode = s.runMode := by
  cases serviced with
  | false =>
    obtain ⟨es, halted, -, rfl⟩ := handleInterrupts_of_false h
    exact ⟨rfl, rfl, rfl⟩
  | true =>
    obtain ⟨es, k, rfl⟩ := handleInterrupts_of_true h
    simp

/-- After a service, a second decode that answers a record lets the call reach its end. -/
theorem State.finishCall_of_service_ok {u : State} {q : ParsedInstruction} (hf : s.fault = none) (hi : handleInterrupts s = (true, u))
    (hd : u.decodeAt T u.pc = .ok q) : s.finishCall T = ((u.afterDecode T u.pc).withNext q).demote := by
  obtain ⟨hu, -, -⟩ := handleInterrupts_keeps hi
  rw [State.finishCall_of_true hi, State.fetchNext_of_ok hd]
  exact State.andThen_of_none (by simpa [hf] using hu)

/-- After a service, the second decode's fault ends the call. -/
theorem State.finishCall_of_service_error {u : State} {x : Fault} (hi : handleInterrupts s = (true, u))
    (hd : u.decodeAt T u.pc = .error x) : s.finishCall T = (u.afterDecode T u.pc).raise x := by
  rw [State.finishCall_of_true hi, State.fetchNext_of_error hd]
  exact State.andThen_of_some rfl

end

/-- Settles O43: the five ways a call goes on after an effect, each by its own equation. -/
theorem orderOfEventsAfterAnEffect : Obligations.OrderOfEventsAfterAnEffect := by
  intro T t v
  have unfaulted (p : ParsedInstruction) (hf : t.fault = none) : (v.withNext p).fault = none := by simpa [v] using hf
  refine ⟨State.afterEffect_of_fault, fun x => State.afterEffect_of_error, fun p u hf hd hi => ?_, fun p u q hf hd hi hq => ?_,
    fun p u x hf hd hi hx => ?_⟩
  · exact (State.afterEffect_of_ok hf hd).trans (State.finishCall_of_false hi)
  · exact (State.afterEffect_of_ok hf hd).trans (State.finishCall_of_service_ok (unfaulted p hf) hi hq)
  · exact (State.afterEffect_of_ok hf hd).trans (State.finishCall_of_service_error hi hx)

/-! ### The result and the run mode (R118, R119) -/

/-- What the rest of a call, which goes on from `s` and ends at `t`, makes of the result and the run mode. -/
structure EndsCall (s t : State) : Prop where
  result  : t.fault = none → t.result = s.result
  demotes : t.fault = none → t.runMode = if s.runMode = .singleStep then .paused else s.runMode
  keeps   : t.fault ≠ none → t.runMode = s.runMode

namespace EndsCall

variable {s t : State}

theorem of_demote (hf : t.fault = none) (hr : t.result = s.result) (hm : t.runMode = s.runMode) : EndsCall s t.demote :=
  ⟨fun _ => hr, fun _ => by rw [State.demote_runMode, hm], fun h => absurd hf h⟩

theorem of_fault (hf : t.fault ≠ none) (hm : t.runMode = s.runMode) : EndsCall s t :=
  ⟨fun h => absurd h hf, fun h => absurd h hf, fun _ => hm⟩

/-- The interrupt step, the second decode and the demotion. -/
theorem finishCall (T : InstrTables) (hf : s.fault = none) : EndsCall s (s.finishCall T) := by
  rcases hi : handleInterrupts s with ⟨_ | _, u⟩ <;> obtain ⟨huf, hur, hum⟩ := handleInterrupts_keeps hi
  · rw [State.finishCall_of_false hi]
    exact .of_demote (huf.trans hf) hur hum
  · cases hd : u.decodeAt T u.pc with
    | ok q =>
      rw [State.finishCall_of_service_ok hf hi hd]
      exact .of_demote (by simpa using huf.trans hf) (by simpa using hur) (by simpa using hum)
    | error x =>
      rw [State.finishCall_of_service_error hi hd]
      exact .of_fault (by simp) (by simpa using hum)

/-- All that follows an effect, whether the effect faulted or not. -/
theorem afterEffect (T : InstrTables) (s : State) : EndsCall s (s.afterEffect T) := by
  rcases State.afterEffect_cases T s with ⟨hf, he⟩ | ⟨-, x, -, he⟩ | ⟨hf, p, -, he⟩ <;> rw [he]
  · exact .of_fault hf rfl
  · exact .of_fault (by simp) (by simp)
  · have ends : EndsCall ((s.afterDecode T s.pc).withNext p) _ := .finishCall T (by simpa using hf)
    exact ⟨by simpa using ends.result, by simpa using ends.demotes, by simpa using ends.keeps⟩

end EndsCall

/-- Settles O45: a halted call begins at 0 cycles, a running one goes on from what its effect gave, and the rest of the call keeps either. -/
theorem returnValueOfACall : Obligations.ReturnValueOfACall := by
  have anyTables (T : InstrTables) (s t : State) (h : cycle T s = .next t) (ht : t.fault = none) :
      (s.halted = true → t.result = some (.cycles 0)) ∧
      (∀ p u, s.halted = false → s.next = some p → runEffect T p (s.beginCall.promote p) = .next u → t.result = u.result) := by
    obtain ⟨hf, ⟨-, rfl⟩ | ⟨p, -, hh, rfl⟩ | ⟨p, u, hn, hh, he, rfl⟩⟩ := cycle_next_cases h
    · cases ht
    · exact ⟨fun _ => (EndsCall.finishCall T (s := s.beginCall) hf).result ht, fun _ _ hr => by simp [hh] at hr⟩
    · refine ⟨fun hr => by simp [hh] at hr, fun q w _ hq hw => ?_⟩
      obtain rfl : p = q := Option.some.inj (hn.symm.trans hq)
      obtain rfl : u = w := Host.Outcome.next.inj (he.symm.trans hw)
      exact (EndsCall.afterEffect T u).result ht
  refine ⟨anyTables, fun s t h ht => ?_⟩
  obtain ⟨halted, running⟩ := anyTables referenceTables s t h ht
  exact ⟨halted, fun p u hh hn he => running p u hh hn ((runEffect_referenceTables ..).trans he)⟩

/-- Settles O46: no effect writes the run mode, so it is the rest of the call that moves it. -/
theorem runModeAfterACall : Obligations.RunModeAfterACall := by
  intro s t h
  obtain ⟨hf, ⟨-, rfl⟩ | ⟨p, -, -, rfl⟩ | ⟨p, u, -, -, he, rfl⟩⟩ := cycle_next_cases h
  · have ends : EndsCall s (s.beginCall.raise (.notPrimed s.pc)) := .of_fault (by simp) rfl
    exact ⟨ends.demotes, ends.keeps⟩
  · have ends := EndsCall.finishCall referenceTables (s := s.beginCall) hf
    exact ⟨ends.demotes, ends.keeps⟩
  · rw [runEffect_referenceTables] at he
    obtain ⟨-, -, hm, -⟩ := effectsKeepThePipelineState _ _ _ he
    have ends := EndsCall.afterEffect referenceTables u
    rw [← State.beginCall_runMode s, ← State.promote_runMode s.beginCall p, ← hm]
    exact ⟨ends.demotes, ends.keeps⟩

/-! ### A primed step (R110 to R113) -/

/-- The record of an instruction that bytes select stands for that instruction. -/
theorem instr_recordOf {bytes : List Byte} {i : Instr} (h : Selects bytes i) (a : Word) : (recordOf a i).instr = i := by
  obtain ⟨he, -⟩ := h.encodes
  cases h with
  | prefixed op => rw [recordOf_prefixed he]; rfl
  | one hl => rw [recordOf_base he (ne_prefixByte_of_declaredLen (by omega))]; rfl
  | two hp hl lo => rw [recordOf_base he hp]; rfl
  | three hl lo hi => rw [recordOf_base he (ne_prefixByte_of_declaredLen (by omega))]; rfl

/-- Priming writes the lookahead, the MMU by its reads, and the two fields that are the model's own (R127). -/
theorem State.prime_of_decode {s : State} {i : Instr} {rest : List Byte} (hf : s.fault = none)
    (hd : decode (s.bytesAt s.pc) = .ok (i, rest)) :
    ∃ es, s.prime referenceTables =
      { s with next := some (recordOf s.pc i), mmu := (s.afterDecode referenceTables s.pc).mmu, trace := es, result := none } := by
  obtain ⟨hr, -⟩ := State.decodeAt_of_decode (s := { s with trace := [], result := none }) hd
  obtain ⟨es, -, he⟩ := State.afterDecode_reads referenceTables { s with trace := [], result := none } s.pc
  have hm := State.afterDecode_mmu_eq_of_mmu referenceTables (s := s) (t := { s with trace := [], result := none }) rfl s.pc
  refine ⟨es, ?_⟩
  rw [State.prime_of_none hf, State.fetchNext_of_ok hr, ← hm, he]
  rfl

/-- Settles O41: the primed core holds the record of what the bytes decode to, and a step runs what the lookahead stands for. -/
theorem stepRunsTheDecodedInstruction : Obligations.StepRunsTheDecodedInstruction := by
  intro s i rest hf hh hd
  obtain ⟨es, primed⟩ := State.prime_of_decode hf hd
  obtain ⟨bytes, selected, -⟩ := selects_of_decode hd
  obtain ⟨-, runs⟩ := stepRunsTheLookahead (s.prime referenceTables) (recordOf s.pc i) (by simpa [primed] using hf)
    (by simpa [primed] using hh) (by simp [primed])
  rw [runs, instr_recordOf selected, primed]
  rfl

end Sys2Proof.Machine
end

section
/-! PROOFS. The stack (40_pipeline.md rules R122 to R124): a pop gives back what a push left. -/

namespace Sys2Proof.Machine

/-- A pop gives back a pushed value wherever its two reads answer the value's two bytes. -/
theorem State.topOfStack_eq {s : State} {v : Word} (hlo : s.peek s.sp = lowByte v) (hhi : (s.noteRead s.sp).peek (s.sp + 1) = highByte v) :
    s.topOfStack = v := by
  rw [State.topOfStack, hlo, hhi, joinBytes_high_low]

/-- Settles O16: the pop reads where the push wrote, and the simulator MMU reads back what was written. -/
theorem popAfterPushReturnsTheValue : Obligations.PopAfterPushReturnsTheValue := by
  intro s u v hsp
  rw [State.push16_sp] at hsp
  have high : s.sp - 2 + 1 = s.sp - 1 := by bv_omega
  have anyMmu (hlo : u.peek (s.sp - 2) = lowByte v) (hhi : (u.noteRead (s.sp - 2)).peek (s.sp - 1) = highByte v) :
      u.topOfStack = v ∧ u.afterPop.sp = s.sp := by
    constructor
    · exact State.topOfStack_eq (by rw [hsp, hlo]) (by rw [hsp, high, hhi])
    · rw [State.afterPop_sp, hsp, BitVec.sub_add_cancel]
  refine ⟨anyMmu, fun hs hu hhi hlo => anyMmu ?_ ?_⟩
  · exact hlo.trans (State.peek_push16_low hs v)
  · exact (State.peek_noteRead hu ..).trans (hhi.trans (State.peek_push16_high hs v))

end Sys2Proof.Machine
end

section
/-! PROOFS. The host's moves (40_pipeline.md rule R125; 60_exceptions.md rule R411; 70_reset_and_hazards.md rule R455): each reaches the core through
the MMU alone, and the simulator MMU through the byte it names. -/

namespace Sys2Proof.Machine

/-- A move that replaces the MMU alone keeps all core state; the bytes it keeps are those that the new MMU answers as the old one. -/
theorem keepsAllBut_withMmu {stores : List Word} {s : State} {m : Mmu}
    (h : s.mmu.isSimulator = true → ∀ a, a ∉ stores → m.answer a = s.mmu.answer a) : KeepsAllBut { stores := stores } s { s with mmu := m } :=
  ⟨fun r _ => by cases r <;> rfl, fun _ => rfl, fun _ => rfl, fun _ => rfl, fun _ => rfl, fun _ => rfl, h, rfl, rfl, rfl, rfl⟩

/-- The masks of R400 are single bits of their own: raising one source's bit sets it and leaves the test of every other source. -/
theorem or_sourceMask_and_sourceMask (k j : Source) (v : Byte) :
    ((v ||| Config.sourceMask k) &&& Config.sourceMask j != 0) = (decide (j = k) || (v &&& Config.sourceMask j != 0)) := by
  revert v; cases k <;> cases j <;> decide

/-- What a request does to the firability of every source, with the simulator MMU (R403, R411). -/
theorem State.firable_requestInterrupt {s : State} (h : s.mmu.isSimulator = true) (k j : Source) :
    (s.requestInterrupt k).firable j =
      (s.bitRead Config.ieAddr (Config.sourceMask j) && (decide (j = k) || s.bitRead Config.ifAddr (Config.sourceMask j))) := by
  have hne : Config.ieAddr ≠ Config.ifAddr := by decide
  simp only [State.firable, State.bitRead, State.peek_requestInterrupt h, if_neg hne, if_true, or_sourceMask_and_sourceMask]

/-- Settles O60, move by move. -/
theorem hostMovesWriteOnlyWhatTheyName : Obligations.HostMovesWriteOnlyWhatTheyName := by
  intro s
  refine ⟨fun _ => rfl, fun a v => ?_, fun k => ?_, fun n => ?_⟩
  · refine ⟨keepsAllBut_withMmu fun hs x hx => ?_, fun hs => ?_, rfl, rfl⟩
    · exact (State.peek_hostWrite hs a x v).trans (if_neg (by simpa using hx))
    · exact (State.peek_hostWrite (by simpa using hs) a a v).trans (if_pos rfl)
  · refine ⟨keepsAllBut_withMmu fun hs x hx => ?_, fun hs => ?_, rfl, rfl, fun hs => ⟨?_, fun j hj => ?_⟩⟩
    · exact (State.peek_requestInterrupt hs k x).trans (if_neg (by simpa [Config.ifAddr] using hx))
    · exact (State.peek_requestInterrupt (by simpa using hs) k Config.ifAddr).trans (if_pos rfl)
    · rw [State.firable_requestInterrupt hs]
      simp [Config.ieAddr]
    · rw [State.firable_requestInterrupt hs]
      simp [hj, State.firable]
  · exact ⟨keepsAllBut_withMmu fun hs x _ => State.peek_advanceDevices hs n x, rfl, rfl⟩

end Sys2Proof.Machine
end

section
/-! PROOFS. A halted call with `ime` clear (60_exceptions.md rules R405, R406, R424): it polls the sources, and wakes without a service. -/

namespace Sys2Proof.Machine

/-- An unfaulted, primed, halted core's call is its interrupt step and what follows that (R111, R119). -/
theorem cycle_of_halted {T : InstrTables} {s : State} {p : ParsedInstruction} (hf : s.fault = none) (hn : s.next = some p)
    (hh : s.halted = true) : cycle T s = .next (s.beginCall.finishCall T) :=
  (cycle_of_next hf hn).trans (if_pos hh)

/-- With `ime` clear the interrupt step polls the sources, and clears `halted` exactly if the scan selects one (R405, R406). -/
theorem handleInterrupts_of_ime_clear {s : State} (hi : s.ime = false) :
    ∃ es, (∀ e ∈ es, ∃ v, e = BusEvent.read Config.ieAddr v ∨ e = BusEvent.read Config.ifAddr v) ∧
      handleInterrupts s = (false, { s with halted := s.halted && (scanSources Source.inPriorityOrder s).1.isNone,
                                            mmu := s.mmu.afterAccesses es, trace := s.trace ++ es }) := by
  obtain ⟨es, hes, hc⟩ := handleInterrupts_cases s
  refine ⟨es, hes, ?_⟩
  rcases hc with ⟨hk, hc⟩ | ⟨k, hk, -, hc⟩ | ⟨k, -, ht, -⟩
  · simp [hc, hk]
  · simp [hc, hk, State.wake]
  · rw [hi] at ht; cases ht

/-- With the simulator MMU the scan selects a source exactly if one is firable. -/
theorem scanSources_isNone_iff {s : State} (h : s.mmu.isSimulator = true) :
    (scanSources Source.inPriorityOrder s).1.isNone = true ↔ ∀ k, s.firable k = false := by
  rw [scanSources_fst _ h, Option.isNone_iff_eq_none, find_none_iff]

/-- Settles O52: the call is the poll of the sources and the demotion of the run mode. -/
theorem wakeWithoutService : Obligations.WakeWithoutService := by
  intro s p hf hn hh hi
  obtain ⟨es, hes, polls⟩ := handleInterrupts_of_ime_clear (s := s.beginCall) hi
  refine ⟨_, es, (cycle_of_halted hf hn hh).trans (congrArg _ (State.finishCall_of_false polls)), hes, ⟨rfl, rfl⟩, rfl, ?_, fun hs => ?_⟩
  · have reads : s.mmu.isSimulator = true → s.mmu.afterAccesses es = s.mmu := fun hs =>
      Mmu.afterAccesses_reads hs fun e he => (hes e he).elim fun v hv => hv.elim (⟨_, v, ·⟩) (⟨_, v, ·⟩)
    exact ⟨fun r _ => by cases r <;> rfl, fun _ => rfl, fun _ => rfl, fun _ => rfl, fun _ => rfl, nofun,
      fun hs a _ => State.peek_eq_of_mmu (reads hs) a, rfl, rfl, rfl, rfl⟩
  · have stays : (s.halted && (scanSources Source.inPriorityOrder s.beginCall).1.isNone) = true ↔ ∀ k, s.firable k = false := by
      rw [hh, Bool.true_and]
      exact scanSources_isNone_iff (s := s.beginCall) hs
    exact ⟨fun k hk => Bool.eq_false_iff.2 fun ht => absurd (stays.1 ht k) (by simp [hk]), stays.2⟩

end Sys2Proof.Machine
end

section
/-! PROOFS. How a completion is proved (30_encoding.md rules R80, R82; 40_pipeline.md rule R114): the encoding of a well-formed row, and the frame and
the accesses of an effect, carried through it one operation at a time. -/

namespace Sys2Proof.Machine

/-! ### Encodings -/

theorem length_of_encode {i : Instr} {op : Byte} {imm : List Byte} (h : encode i = op :: imm) (hp : op ≠ Config.prefixByte) :
    i.length = declaredLen op := by
  simp [Instr.length, h, hp]

/-- The bytes that select an instruction are as many as its length (R80). -/
theorem length_of_selects {bytes : List Byte} {i : Instr} (h : Selects bytes i) : i.length = bytes.length := by
  obtain ⟨he, -⟩ := h.encodes
  cases h with
  | prefixed op => exact Instr.length_of_prefixed he
  | one hl => exact (length_of_encode he (ne_prefixByte_of_declaredLen (by omega))).trans hl
  | two hp hl lo => exact (length_of_encode he hp).trans hl
  | three hl lo hi => exact (length_of_encode he (ne_prefixByte_of_declaredLen (by omega))).trans hl

/-- What the encoder writes for a well-formed instruction is its encoding. -/
theorem EncodedAs.of_encode {i : Instr} {bytes : List Byte} (he : encode i = bytes) (hw : WellFormed i = true) : EncodedAs i bytes := by
  subst he
  have selected := selects_encode hw
  exact ⟨rfl, selected.decode_append, length_of_selects selected⟩

/-! ### The frame and the accesses of the operations that effects are made of -/

/-- The registers that a memory operand's update of HL writes (R216 to R219). -/
def MemOperand.movedRegs : MemOperand → List Reg8
  | .hlInc | .hlDec => halvesOf .hl
  | _               => []

theorem State.reg_setPair_of_notMem (s : State) {p : Pair} (v : Word) {r : Reg8} (h : r ∉ halvesOf p) : (s.setPair p v).reg r = s.reg r := by
  rw [State.reg_setPair]
  split
  case h_7 => rfl
  all_goals exact absurd (by decide) h

theorem State.reg_postUpdate_of_notMem (s : State) {m : MemOperand} {r : Reg8} (h : r ∉ m.movedRegs) : (s.postUpdate m).reg r = s.reg r := by
  cases m with
  | hlInc | hlDec => exact State.reg_setPair_of_notMem s _ h
  | bc | de | hl | absolute | high | highC => rfl

theorem KeepsAllBut.trans {w : Writes} {s t u : State} (h : KeepsAllBut w s t) (h' : KeepsAllBut w t u)
    (hk : t.mmu.isSimulator = s.mmu.isSimulator) : KeepsAllBut w s u := by
  obtain ⟨regs, f, sp, pc, ime, halted, bytes, runMode, current, next, fault⟩ := h
  obtain ⟨regs', f', sp', pc', ime', halted', bytes', runMode', current', next', fault'⟩ := h'
  exact ⟨fun r hr => (regs' r hr).trans (regs r hr), fun hw => (f' hw).trans (f hw), fun hw => (sp' hw).trans (sp hw),
    fun hw => (pc' hw).trans (pc hw), fun hw => (ime' hw).trans (ime hw), fun hw => (halted' hw).trans (halted hw),
    fun hs a ha => (bytes' (hk.trans hs) a ha).trans (bytes hs a ha), runMode'.trans runMode, current'.trans current, next'.trans next,
    fault'.trans fault⟩

/-- From `s` to `t` an effect wrote nothing but `w` and made the accesses `es`. -/
structure Performs (w : Writes) (s t : State) (es : List BusEvent) : Prop where
  frame    : KeepsAllBut w s t
  accesses : Accesses s t es

namespace Performs

variable {w : Writes} {s t u : State} {es fs : List BusEvent}

theorem refl (w : Writes) (s : State) : Performs w s s [] := ⟨.refl w s, .refl s⟩

theorem trans (h : Performs w s t es) (h' : Performs w t u fs) : Performs w s u (es ++ fs) :=
  ⟨h.frame.trans h'.frame h.accesses.isSimulator, h.accesses.trans h'.accesses⟩

/-- An update that makes no access. -/
theorem silent (h : Performs w s t es) (hf : KeepsAllBut w t u) (ht : u.trace = t.trace) (hm : u.mmu = t.mmu) : Performs w s u es :=
  ⟨h.frame.trans hf h.accesses.isSimulator, h.accesses.congr ht hm⟩

theorem noteRead (h : Performs w s t es) (a : Word) : Performs w s (t.noteRead a) (es ++ [.read a (t.peek a)]) :=
  ⟨h.frame.noteRead h.accesses.isSimulator a, h.accesses.noteRead a⟩

theorem memWrite (h : Performs w s t es) {a : Word} (ha : a ∈ w.stores) (v : Byte) : Performs w s (t.memWrite a v) (es ++ [.write a v]) := by
  have others (hs : t.mmu.isSimulator = true) (x : Word) (hx : x ∉ w.stores) : (t.memWrite a v).peek x = t.peek x :=
    State.peek_memWrite_other hs v (ne_of_mem_of_not_mem ha hx).symm
  have frame : KeepsAllBut w t (t.memWrite a v) := by simpa [KeepsAllBut] using others
  exact h.trans ⟨frame, (Accesses.refl t).memWrite a v⟩

theorem setReg (h : Performs w s t es) {r : Reg8} (hr : r ∈ w.regs) (v : Byte) : Performs w s (t.setReg r v) es := by
  have others (q : Reg8) (hq : q ∉ w.regs) : (t.setReg r v).reg q = t.reg q := by
    rw [State.reg_setReg, if_neg (ne_of_mem_of_not_mem hr hq).symm]
  exact h.silent ⟨others, by simp⟩ (by simp) (by simp)

theorem postUpdate (h : Performs w s t es) {m : MemOperand} (hm : m.movedRegs ⊆ w.regs) : Performs w s (t.postUpdate m) es := by
  have others (q : Reg8) (hq : q ∉ w.regs) : (t.postUpdate m).reg q = t.reg q := State.reg_postUpdate_of_notMem t (fun e => hq (hm e))
  exact h.silent ⟨others, by simp⟩ (by simp) (by simp)

end Performs

/-- An effect whose operations are accounted for completes by returning its cycles. -/
theorem Runs.of_performs {i : Instr} {w : Writes} {s t : State} {es : List BusEvent} {n : Nat} {post : State → Prop}
    (he : exec i s = .next (t.done n)) (h : Performs w s t es) (hp : post (t.done n)) : Runs i s w es n post :=
  ⟨t.done n, he, h.frame.done n, h.accesses.congr rfl rfl, rfl, hp⟩

end Sys2Proof.Machine
end

section
/-! PROOFS. The 8-bit loads (41_load8.md rules R201 to R219): the two shared operations, a load from a memory operand and a store to one, and the
statements that are their instances. -/

namespace Sys2Proof.Machine

section
variable {i : Instr} {s : State} {m : MemOperand} {a : Word} {n : Nat} {post : State → Prop}

/-- A load from a memory operand reads the byte at the operand's address, and then the operand moves HL. -/
theorem Runs.of_loadRegMem {r : Reg8} (he : exec i s = loadRegMem r m n s) (ha : s.operandAddr m = a)
    (hp : post ((((s.noteRead a).setReg r (s.peek a)).postUpdate m).done n)) :
    Runs i s { regs := r :: m.movedRegs } [.read a (s.peek a)] n post := by
  subst ha
  have read : Performs { regs := r :: m.movedRegs } s (s.noteRead (s.operandAddr m)) _ := (Performs.refl _ s).noteRead _
  exact .of_performs he ((read.setReg (List.mem_cons_self ..) _).postUpdate (List.subset_cons_self ..)) hp

/-- A store to a memory operand writes the byte at the operand's address, and then the operand moves HL. -/
theorem Runs.of_storeMem {v : Byte} (he : exec i s = storeMem m v n s) (ha : s.operandAddr m = a)
    (hp : Stored (((s.memWrite a v).postUpdate m).done n) a v → post (((s.memWrite a v).postUpdate m).done n)) :
    Runs i s { regs := m.movedRegs, stores := [a] } [.write a v] n post := by
  subst ha
  have written : Performs { regs := m.movedRegs, stores := [s.operandAddr m] } s (s.memWrite (s.operandAddr m) v) _ :=
    (Performs.refl _ s).memWrite (List.mem_singleton_self _) v
  exact .of_performs he (written.postUpdate (List.Subset.refl _)) (hp ((stored_memWrite s _ v).congr (by simp)))

end

/-- Settles O7: the effect is one write of the register. -/
theorem loadOfARegisterFromARegisterOrImmediate : Obligations.LoadOfARegisterFromARegisterOrImmediate := by
  intro s dst
  have loads (v : Byte) : Performs { regs := [dst] } s (s.setReg dst v) [] := (Performs.refl _ s).setReg (List.mem_singleton_self dst) v
  refine ⟨fun r => ⟨?_, ?_⟩, fun n => ⟨?_, ?_⟩⟩
  · cases dst <;> cases r <;> exact .of_encode rfl rfl
  · exact .of_performs (exec_ldRegReg dst r s) (loads (s.reg r)) (by simp)
  · cases dst <;> exact .of_encode rfl rfl
  · exact .of_performs (exec_ldRegImm dst n s) (loads n) (by simp)

/-- Settles O8: the operand (HL) leaves HL where it is. -/
theorem loadAndStoreThroughHl : Obligations.LoadAndStoreThroughHl := by
  intro s
  refine ⟨fun dst => ⟨?_, ?_⟩, fun r => ⟨?_, ?_⟩, fun n => ⟨.of_encode rfl rfl, ?_⟩⟩
  · cases dst <;> exact .of_encode rfl rfl
  · exact .of_loadRegMem (exec_ldRegInd dst s) rfl (by simp [State.postUpdate])
  · cases r <;> exact .of_encode rfl rfl
  · exact .of_storeMem (exec_ldIndReg r s) rfl id
  · exact .of_storeMem (exec_ldIndHlN8 n s) rfl id

/-- Settles O9, form by form: the high-page addresses are sums in the model and pairs of bytes in the statement. -/
theorem loadAndStoreOfA : Obligations.LoadAndStoreOfA := by
  intro s loads stores
  exact
    ⟨⟨.of_encode rfl rfl, .of_loadRegMem (exec_ldAIndBc s) rfl rfl⟩,
     ⟨.of_encode rfl rfl, .of_loadRegMem (exec_ldAIndDe s) rfl rfl⟩,
     fun n => ⟨.of_encode rfl rfl, .of_loadRegMem (exec_ldAIndN16 n s) rfl rfl⟩,
     fun n => ⟨.of_encode rfl rfl, .of_loadRegMem (exec_ldhAIndN8 n s) (highPage_add n) rfl⟩,
     ⟨.of_encode rfl rfl, .of_loadRegMem (exec_ldAIndC s) (highPage_add s.c) rfl⟩,
     ⟨.of_encode rfl rfl, .of_storeMem (exec_ldIndBcA s) rfl id⟩,
     ⟨.of_encode rfl rfl, .of_storeMem (exec_ldIndDeA s) rfl id⟩,
     fun n => ⟨.of_encode rfl rfl, .of_storeMem (exec_ldIndN16A n s) rfl id⟩,
     fun n => ⟨.of_encode rfl rfl, .of_storeMem (exec_ldhIndN8A n s) (highPage_add n) id⟩,
     ⟨.of_encode rfl rfl, .of_storeMem (exec_ldIndCA s) (highPage_add s.c) id⟩⟩

theorem State.pair_hl_postUpdate_hlInc (s : State) : (s.postUpdate .hlInc).pair .hl = s.pair .hl + 1 := State.pair_setPair s .hl _

theorem State.pair_hl_postUpdate_hlDec (s : State) : (s.postUpdate .hlDec).pair .hl = s.pair .hl - 1 := State.pair_setPair s .hl _

/-- Settles O10: the access leaves HL to the operand, which moves it afterwards. -/
theorem loadAndStoreMovingHl : Obligations.LoadAndStoreMovingHl := by
  intro s a
  let loaded := (s.noteRead a).setReg .a (s.peek a)
  let stored := s.memWrite a s.a
  exact
    ⟨⟨.of_encode rfl rfl, .of_loadRegMem (exec_ldAIndHli s) rfl ⟨rfl, State.pair_hl_postUpdate_hlInc loaded⟩⟩,
     ⟨.of_encode rfl rfl, .of_loadRegMem (exec_ldAIndHld s) rfl ⟨rfl, State.pair_hl_postUpdate_hlDec loaded⟩⟩,
     ⟨.of_encode rfl rfl, .of_storeMem (exec_ldIndHliA s) rfl fun h => ⟨h, State.pair_hl_postUpdate_hlInc stored⟩⟩,
     ⟨.of_encode rfl rfl, .of_storeMem (exec_ldIndHldA s) rfl fun h => ⟨h, State.pair_hl_postUpdate_hlDec stored⟩⟩⟩

end Sys2Proof.Machine
end

section
/-! PROOFS. The 16-bit loads and the stack instructions (42_load16_stack.md rules R230 to R236; 44_alu16.md rule R293): the rules that carry a
frame and its accesses through the writes of a pair, of F and of the stack, and the statements that are their instances. -/

namespace Sys2Proof.Machine

/-! ### The writes of a pair, of F and of the stack -/

namespace Performs

variable {w : Writes} {s t : State} {es : List BusEvent}

/-- A write of a pair writes the pair's halves, or `sp`. -/
theorem setPair (h : Performs w s t es) {p : Pair} (hr : halvesOf p ⊆ w.regs) (hsp : p = .sp → w.sp = true) (v : Word) :
    Performs w s (t.setPair p v) es := by
  have others (q : Reg8) (hq : q ∉ w.regs) : (t.setPair p v).reg q = t.reg q := State.reg_setPair_of_notMem t v fun e => hq (hr e)
  have spKept (hw : w.sp = false) : (t.setPair p v).sp = t.sp := by
    rw [State.setPair_sp, if_neg fun e => Bool.false_ne_true (hw.symm.trans (hsp e))]
  exact h.silent ⟨others, by simp, spKept, by simp⟩ (by simp) (by simp)

/-- The only write of an instruction that writes one pair (R22). -/
theorem setPair_self (s : State) (p : Pair) (v : Word) : Performs { regs := halvesOf p, sp := p == .sp } s (s.setPair p v) [] :=
  (refl _ s).setPair (List.Subset.refl _) beq_iff_eq.2 v

theorem setSp (h : Performs w s t es) (hw : w.sp = true) (v : Word) : Performs w s (t.setPair .sp v) es :=
  h.setPair (List.nil_subset _) (fun _ => hw) v

theorem setF (h : Performs w s t es) (hw : w.f = true) (v : Byte) : Performs w s (t.setF v) es :=
  h.silent ⟨fun r _ => State.reg_setF t v r, by simp [hw], by simp⟩ (by simp) (by simp)

theorem push16 (h : Performs w s t es) (hw : w.sp = true) (hhi : t.sp - 1 ∈ w.stores) (hlo : t.sp - 2 ∈ w.stores) (v : Word) :
    Performs w s (t.push16 v) (es ++ [.write (t.sp - 1) (highByte v), .write (t.sp - 2) (lowByte v)]) :=
  h.trans ((((refl w t).memWrite hhi (highByte v)).memWrite hlo (lowByte v)).setSp hw (t.sp - 2))

theorem afterPop (h : Performs w s t es) (hw : w.sp = true) :
    Performs w s t.afterPop (es ++ [.read t.sp (t.peek t.sp), .read (t.sp + 1) ((t.noteRead t.sp).peek (t.sp + 1))]) :=
  h.trans ((((refl w t).noteRead t.sp).noteRead (t.sp + 1)).setSp hw (t.sp + 2))

end Performs

/-! ### The bytes that two stores leave -/

/-- A byte stays as stored when another one is written. -/
theorem Stored.memWrite {s : State} {a b : Word} {v : Byte} (h : Stored s a v) (hne : a ≠ b) (x : Byte) : Stored (s.memWrite b x) a v := by
  intro hs
  have hs' : s.mmu.isSimulator = true := by simpa using hs
  exact (State.peek_memWrite_other hs' x hne).trans (h hs')

theorem stored_push16_high (s : State) (v : Word) : Stored (s.push16 v) (s.sp - 1) (highByte v) := fun hs =>
  State.peek_push16_high (by simpa using hs) v

theorem stored_push16_low (s : State) (v : Word) : Stored (s.push16 v) (s.sp - 2) (lowByte v) := fun hs =>
  State.peek_push16_low (by simpa using hs) v

/-! ### The loads of a pair and of SP (R230 to R232) -/

/-- Settles O11: each form is one write of a pair. -/
theorem loadOfAPairOrSp : Obligations.LoadOfAPairOrSp := by
  intro s
  refine ⟨fun p n => ⟨?_, ?_⟩, .of_encode rfl rfl, ?_⟩
  · cases p <;> exact .of_encode rfl rfl
  · exact .of_performs (exec_ldPairImm p n s) (.setPair_self s p n) (by simp)
  · exact .of_performs (exec_ldSpHl s) (.setPair_self s .sp (s.pair .hl)) rfl

/-- Settles O12: the second store is to another address, so it leaves the first byte. -/
theorem storeOfSp : Obligations.StoreOfSp := by
  intro s n
  have stores := ((Performs.refl { stores := [n, n + 1] } s).memWrite (a := n) (by simp) (lowByte s.sp)).memWrite (a := n + 1) (by simp)
    (highByte s.sp)
  have next_ne : n ≠ n + 1 := by bv_omega
  exact ⟨.of_encode rfl rfl, .of_performs (exec_ldIndN16Sp n s) stores
    ⟨(stored_memWrite s n _).memWrite next_ne _, stored_memWrite _ (n + 1) _⟩⟩

/-! ### SP plus a displacement (R233, R293) -/

/-- The model's sum of words and its masks, as integers. -/
theorem addSigned_eq (sp : Word) (e : Byte) :
    addSigned sp e = (BitVec.ofInt 16 (sp.toNat + e.toInt),
      { z := false, n := false, h := decide (sp.toNat % 16 + e.toNat % 16 > 15), c := decide (sp.toNat % 256 + e.toNat > 255) }) := by
  have sum : sp + sext16 e = BitVec.ofInt 16 (sp.toNat + e.toInt) := by
    rw [BitVec.ofInt_add, BitVec.ofInt_natCast, BitVec.ofNat_toNat, BitVec.setWidth_eq]
    rfl
  simp [addSigned, sum, and_15_eq_mod, and_255_eq_mod]

/-- An instruction that writes the sum to a pair and its flags to F. -/
theorem Runs.of_addSigned {i : Instr} {s : State} {e : Byte} {p : Pair} {n : Nat}
    (he : exec i s = .next (((s.setPair p (addSigned s.sp e).1).setFlags (addSigned s.sp e).2).done n)) :
    Runs i s { regs := halvesOf p, f := true, sp := p == .sp } [] n
      (fun t => t.pair p = (addSigned s.sp e).1 ∧ t.f = (addSigned s.sp e).2.toByte) := by
  have summed : Performs { regs := halvesOf p, f := true, sp := p == .sp } s (s.setPair p (addSigned s.sp e).1) [] :=
    (Performs.refl _ s).setPair (List.Subset.refl _) beq_iff_eq.2 _
  exact .of_performs he (summed.setF rfl _) (by simp)

/-- Settles O13: the two instructions are the one sum, written to HL or to `sp`. -/
theorem sumOfSpAndADisplacement : Obligations.SumOfSpAndADisplacement := by
  intro s e g sum
  have integers : addSigned s.sp e = (sum, g) := addSigned_eq s.sp e
  have toHl := Runs.of_addSigned (p := .hl) (exec_ldHlSpE8 e s)
  have toSp := Runs.of_addSigned (p := .sp) (exec_addSpE8 e s)
  rw [integers] at toHl toSp
  exact ⟨⟨.of_encode rfl rfl, toHl⟩, .of_encode rfl rfl, toSp⟩

/-! ### PUSH and POP (R234 to R236) -/

/-- Settles O14: the effect is one push. -/
theorem pushStoresThePair : Obligations.PushStoresThePair := by
  intro s p
  let v := s.stackPair p
  have pushed := (Performs.refl { sp := true, stores := [s.sp - 1, s.sp - 2] } s).push16 rfl (by simp) (by simp) v
  refine ⟨?_, .of_performs (exec_pushPair p s) pushed ⟨rfl, stored_push16_high s v, stored_push16_low s v⟩⟩
  cases p <;> exact .of_encode rfl rfl

/-- The pairs that the two groups of R91 share are written alike. -/
theorem State.setStackPair_eq_setPair {p : Pair} {q : StackPair} (h : (p, q) ∈ [(Pair.bc, StackPair.bc), (.de, .de), (.hl, .hl)])
    (s : State) (v : Word) : s.setStackPair q v = s.setPair p v := by
  simp only [List.mem_cons, Prod.mk.injEq, List.not_mem_nil, or_false] at h
  rcases h with ⟨rfl, rfl⟩ | ⟨rfl, rfl⟩ | ⟨rfl, rfl⟩ <;> rfl

/-- A write of AF writes A, and F through its mask (R22, R24). -/
theorem State.setStackPair_af (s : State) (v : Word) : s.setStackPair .af v = (s.setReg .a (highByte v)).setF (lowByte v) := rfl

/-- Settles O15: the effect is one pop and one write of the pair, which for AF goes through the mask of F. -/
theorem popLoadsThePair : Obligations.PopLoadsThePair := by
  intro s lo hi reads
  refine ⟨fun p q hpq => ⟨?_, ?_⟩, .of_encode rfl rfl, ?_⟩
  · cases q <;> exact .of_encode rfl rfl
  · have popped := (Performs.refl { regs := halvesOf p, sp := true } s).afterPop rfl
    have loaded := popped.setPair (List.Subset.refl _) (fun _ => rfl) s.topOfStack
    rw [← State.setStackPair_eq_setPair hpq] at loaded
    refine .of_performs (exec_popPair q s) loaded ⟨?_, by simp⟩
    rw [State.pair_done, State.setStackPair_eq_setPair hpq, State.pair_setPair, State.topOfStack]
  · have popped := (Performs.refl { regs := [.a], f := true, sp := true } s).afterPop rfl
    have loaded := (popped.setReg (r := .a) (List.mem_singleton_self _) (highByte s.topOfStack)).setF rfl (lowByte s.topOfStack)
    rw [← State.setStackPair_af] at loaded
    refine .of_performs (exec_popPair .af s) loaded ⟨?_, ?_, rfl⟩
    · exact highByte_joinBytes hi lo
    · simp [State.setStackPair_af, State.topOfStack, lo]

end Sys2Proof.Machine
end

section
/-! PROOFS. The 8-bit arithmetic and logic (43_alu8.md rules R250 to R282): the model's results and flags as the rules' own conditions, the three
shapes of effect that the instructions share, and the statements that are their instances. -/

namespace Sys2Proof.Machine

/-! ### Sums, differences and flags (R250) -/

theorem Byte.toNat_lowNibble (v : Byte) : (v &&& 0x0F).toNat = v.toNat % 16 := by
  rw [BitVec.toNat_and]
  exact and_15_eq_mod v.toNat

theorem Byte.ofNat_eq_zero (k : Nat) : BitVec.ofNat 8 k = 0 ↔ k % 256 = 0 := by
  rw [BitVec.toNat_eq, BitVec.toNat_ofNat]
  rfl

theorem Byte.toNat_ofInt (k : Int) : ((BitVec.ofInt 8 k).toNat : Int) = k % 256 := by
  rw [BitVec.toNat_ofInt]
  omega

theorem Byte.ofInt_eq_zero (k : Int) : BitVec.ofInt 8 k = 0 ↔ k % 256 = 0 := by
  rw [BitVec.toNat_eq, ← Byte.toNat_ofInt, Int.natCast_eq_zero]
  rfl

/-- Settles O17: a borrow is a negative difference, and a result is 0 exactly when its integer is 0 modulo 256. -/
theorem addAndSubtractHelpersAreTheIntegerOnes : Obligations.AddAndSubtractHelpersAreTheIntegerOnes := by
  intro a v cin
  have borrow : (a.toNat : Int) - v.toNat - cin.toNat < 0 ↔ a.toNat < v.toNat + cin.toNat := by omega
  refine ⟨BitVec.toNat_ofNat .., ?_, Byte.toNat_ofInt _, ?_⟩
  · simp only [add8, Byte.toNat_lowNibble, beq_eq_decide, Byte.ofNat_eq_zero]
  · simp only [sub8, Byte.toNat_lowNibble, beq_eq_decide, Byte.ofInt_eq_zero, borrow]

theorem xor8_eq (a v : Byte) : xor8 a v = (a ^^^ v, { z := decide (a = v), n := false, h := false, c := false }) := by
  simp [xor8, beq_eq_decide]

theorem or8_eq (a v : Byte) : or8 a v = (a ||| v, { z := decide (a = 0 ∧ v = 0), n := false, h := false, c := false }) := by
  simp [or8, beq_eq_decide]

/-- The masked comparisons of the model as the rules' conditions on the byte (R275). -/
theorem inc8_eq (old : Byte) (g : Flags) :
    inc8 old g = (old + 1, { g with z := decide (old = 0xFF), n := false, h := decide (old.toNat % 16 = 15) }) := by
  have zero : old + 1 = 0 ↔ old = 0xFF := by bv_omega
  have nibble : old &&& 0x0F = 0x0F ↔ old.toNat % 16 = 15 := by rw [← Byte.toNat_lowNibble]; exact BitVec.toNat_eq
  simp only [inc8, beq_eq_decide, zero, nibble]

theorem dec8_eq (old : Byte) (g : Flags) :
    dec8 old g = (old - 1, { g with z := decide (old = 0x01), n := true, h := decide (old.toNat % 16 = 0) }) := by
  have zero : old - 1 = 0 ↔ old = 0x01 := by bv_omega
  have nibble : old &&& 0x0F = 0x00 ↔ old.toNat % 16 = 0 := by rw [← Byte.toNat_lowNibble]; exact BitVec.toNat_eq
  simp only [dec8, beq_eq_decide, zero, nibble]

/-! ### The operations of R93 -/

/-- A is written by every operation but CP, which writes back what A holds. -/
theorem Performs.aluWith {w : Writes} {s t : State} {es : List BusEvent} (h : Performs w s t es) (hf : w.f = true) {op : AluOp}
    (ha : .a ∈ w.regs ∨ op = .cp) (v : Byte) : Performs w s (t.aluWith op v) es := by
  rcases ha with ha | rfl
  · exact (h.setReg ha _).setF hf _
  · exact h.setF hf _

/-- The encodings of the three forms of an operation (R93). -/
theorem encodedAs_aluForms (op : AluOp) :
    (∀ r, EncodedAs (.aluReg op r) [0b10#2 ++ op.code ++ r.code]) ∧ EncodedAs (.aluInd op) [0b10#2 ++ op.code ++ 0b110#3] ∧
      ∀ n, EncodedAs (.aluImm op n) [0b11#2 ++ op.code ++ 0b110#3, n] := by
  refine ⟨fun r => ?_, ?_, fun n => ?_⟩
  · cases op <;> cases r <;> exact .of_encode rfl rfl
  · cases op <;> exact .of_encode rfl rfl
  · cases op <;> exact .of_encode rfl rfl

/-- The three forms of an operation leave what the model's operation computes, from the carry as it was (R251 to R274). -/
theorem aluForms_alu8 (s : State) (op : AluOp) {regs : List Reg8} (ha : .a ∈ regs ∨ op = .cp) :
    AluForms op s regs (fun v => alu8 op s.a v (s.f.getLsbD 4)) := by
  obtain ⟨encodedReg, encodedInd, encodedImm⟩ := encodedAs_aluForms op
  have start : Performs { regs := regs, f := true } s s [] := .refl _ s
  refine ⟨fun r => ⟨encodedReg r, ?_⟩, ⟨encodedInd, ?_⟩, fun n => ⟨encodedImm n, ?_⟩⟩
  · exact .of_performs (exec_aluReg op r s) (start.aluWith rfl ha (s.reg r)) (by simp [State.flags_eq])
  · exact .of_performs (exec_aluInd op s) ((start.noteRead (s.pair .hl)).aluWith rfl ha (s.peek (s.pair .hl))) (by simp [State.flags_eq])
  · exact .of_performs (exec_aluImm op n s) (start.aluWith rfl ha n) (by simp [State.flags_eq])

/-- An operation that writes A, said through what its result and flags are. -/
theorem aluForms_of_alu8_eq (s : State) (op : AluOp) {post : Byte → Byte × Flags} (h : ∀ v, alu8 op s.a v (s.f.getLsbD 4) = post v) :
    AluForms op s [.a] post := by
  rw [← funext h]
  exact aluForms_alu8 s op (.inl (List.mem_singleton_self _))

/-- Settles O18: ADC and SBC take the carry as it was, ADD and SUB take 0. -/
theorem additionsAndSubtractionsOfBytes : Obligations.AdditionsAndSubtractionsOfBytes := fun s =>
  ⟨aluForms_of_alu8_eq s .add fun _ => rfl, aluForms_of_alu8_eq s .adc fun _ => rfl, aluForms_of_alu8_eq s .sub fun _ => rfl,
    aluForms_of_alu8_eq s .sbc fun _ => rfl⟩

/-- Settles O19: what XOR and OR say of 0 is said of the operands. -/
theorem andXorOr : Obligations.AndXorOr := fun s =>
  ⟨aluForms_of_alu8_eq s .and fun v => by simp only [alu8, and8, beq_eq_decide], aluForms_of_alu8_eq s .xor (xor8_eq s.a),
    aluForms_of_alu8_eq s .or (or8_eq s.a)⟩

/-- Settles O20: the one operation whose forms write no register. -/
theorem compareWritesOnlyFlags : Obligations.CompareWritesOnlyFlags := fun s => aluForms_alu8 s .cp (.inr rfl)

/-! ### Updates of one operand and F -/

section
variable {i : Instr} {s : State} {x : Byte × Flags} {n : Nat}

/-- An instruction that writes a byte to a register and flags to F. -/
theorem Runs.of_setRegFlags {r : Reg8} (he : exec i s = .next (((s.setReg r x.1).setFlags x.2).done n)) :
    Runs i s { regs := [r], f := true } [] n (fun t => t.reg r = x.1 ∧ t.f = x.2.toByte) := by
  have written : Performs { regs := [r], f := true } s (s.setReg r x.1) [] := (Performs.refl _ s).setReg (List.mem_singleton_self r) _
  exact .of_performs he (written.setF rfl _) (by simp)

/-- An instruction that reads a byte, writes one in its place and writes flags to F. -/
theorem Runs.of_updateMemFlags {a : Word} (he : exec i s = .next ((((s.noteRead a).memWrite a x.1).setFlags x.2).done n)) :
    Runs i s { f := true, stores := [a] } [.read a (s.peek a), .write a x.1] n (fun t => Stored t a x.1 ∧ t.f = x.2.toByte) := by
  have read : Performs { f := true, stores := [a] } s (s.noteRead a) _ := (Performs.refl _ s).noteRead a
  exact .of_performs he ((read.memWrite (List.mem_singleton_self a) x.1).setF rfl _)
    ⟨(stored_memWrite (s.noteRead a) a x.1).congr rfl, by simp⟩

/-- An instruction that writes flags to F and nothing else. -/
theorem Runs.of_setFlags {g : Flags} (he : exec i s = .next ((s.setFlags g).done n)) :
    Runs i s { f := true } [] n (fun t => t.f = g.toByte) :=
  .of_performs he ((Performs.refl _ s).setF rfl _) (by simp)

end

/-! ### INC and DEC of a byte (R275 to R278) -/

/-- Settles O21: the four effects are one update by `inc8` or `dec8`, of a register or of the byte at HL. -/
theorem incrementAndDecrementOfAByte : Obligations.IncrementAndDecrementOfAByte := by
  intro s a up down
  have increments (old : Byte) : inc8 old s.flags = (old + 1, up old) := inc8_eq old s.flags
  have decrements (old : Byte) : dec8 old s.flags = (old - 1, down old) := dec8_eq old s.flags
  refine ⟨fun r => ⟨?_, ?_⟩, ⟨.of_encode rfl rfl, ?_⟩, fun r => ⟨?_, ?_⟩, .of_encode rfl rfl, ?_⟩
  · cases r <;> exact .of_encode rfl rfl
  · exact .of_setRegFlags (x := (s.reg r + 1, up (s.reg r))) (by rw [exec_incReg, incrementReg, increments])
  · exact .of_updateMemFlags (x := (s.peek a + 1, up (s.peek a))) (by rw [exec_incIndHl, incrementInd, increments])
  · cases r <;> exact .of_encode rfl rfl
  · exact .of_setRegFlags (x := (s.reg r - 1, down (s.reg r))) (by rw [exec_decReg, decrementReg, decrements])
  · exact .of_updateMemFlags (x := (s.peek a - 1, down (s.peek a))) (by rw [exec_decIndHl, decrementInd, decrements])

/-! ### DAA (R279) -/

/-- The adjustment by 0x60 leaves the low nibble, so it is the low nibble of A that decides the adjustment by 0x06 after an add. -/
theorem daa8_eq (a : Byte) (g : Flags) :
    let big := g.c || decide (a.toNat > 0x99)
    let low := g.h || decide (a.toNat % 16 > 9)
    let r : Byte := if g.n then a - (if g.c then 0x60 else 0) - (if g.h then 0x06 else 0)
      else a + (if big then 0x60 else 0) + (if low then 0x06 else 0)
    daa8 a g = (r, { z := decide (r = 0), n := g.n, h := false, c := if g.n then g.c else big }) := by
  obtain ⟨z, n, h, c⟩ := g
  have nibble (b : Bool) : (if b then a + 0x60 else a).toNat % 16 = a.toNat % 16 := by
    split
    · bv_omega
    · rfl
  cases n with
  | true => simp only [daa8, if_true, sub_ite, sub_zero, beq_eq_decide]
  | false => simp only [daa8, Bool.false_eq_true, if_false, add_ite, add_zero, Byte.toNat_lowNibble, nibble, beq_eq_decide]

theorem exec_daa (s : State) : exec .daa s = .next (((s.setReg .a (daa8 s.a s.flags).1).setFlags (daa8 s.a s.flags).2).done 4) := rfl

/-- Settles O22: the effect writes to A and F what the adjustment computes. -/
theorem decimalAdjust : Obligations.DecimalAdjust := by
  intro s n h c big low r
  have adjusts : daa8 s.a s.flags = (r, { z := decide (r = 0), n := n, h := false, c := if n then c else big }) := daa8_eq s.a s.flags
  exact ⟨.of_encode rfl rfl, .of_setRegFlags (r := .a) (adjusts ▸ exec_daa s)⟩

/-! ### CPL, SCF and CCF (R280 to R282) -/

/-- Settles O23: the flags not named are as read. -/
theorem complementAndCarryInstructions : Obligations.ComplementAndCarryInstructions := fun s =>
  ⟨⟨.of_encode rfl rfl, .of_setRegFlags (r := .a) (x := (~~~s.a, _)) (exec_cpl s)⟩, ⟨.of_encode rfl rfl, .of_setFlags (exec_scf s)⟩,
    .of_encode rfl rfl, .of_setFlags (exec_ccf s)⟩

end Sys2Proof.Machine
end

section
/-! PROOFS. The 16-bit arithmetic (44_alu16.md rules R290 to R292): the model's sum and masks as the rule's conditions, and the statements, whose
effects are one write of a pair, with F for ADD. -/

namespace Sys2Proof.Machine

/-- The model's integer sum is the sum of words, and its mask of bits 11..0 is a remainder (R290). -/
theorem add16_eq (a v : Word) (g : Flags) :
    add16 a v g = (a + v, { g with n := false, h := decide (a.toNat % 4096 + v.toNat % 4096 > 4095),
                                   c := decide (a.toNat + v.toNat > 65535) }) := by
  have sum : BitVec.ofNat 16 (a.toNat + v.toNat) = a + v := by simp [BitVec.ofNat_add]
  simp [add16, sum, and_4095_eq_mod]

/-- Settles O24: the effect is one write of HL and one of F, by the model's sum of the two words. -/
theorem addOfAPairToHl : Obligations.AddOfAPairToHl := by
  intro s p a v
  have summed : Performs { regs := [.h, .l], f := true } s (s.setPair .hl (add16 a v s.flags).1) [] :=
    (Performs.refl _ s).setPair (p := .hl) (List.Subset.refl _) (by decide) _
  refine ⟨?_, .of_performs (exec_addHlPair p s) (summed.setF rfl (add16 a v s.flags).2.toByte) ?_⟩
  · cases p <;> exact .of_encode rfl rfl
  · simp [a, v, add16_eq, State.flags_eq]

/-- Settles O25: each effect is one write of the pair. -/
theorem incrementAndDecrementOfAPair : Obligations.IncrementAndDecrementOfAPair := by
  refine fun s p => ⟨⟨?_, ?_⟩, ?_, ?_⟩
  · cases p <;> exact .of_encode rfl rfl
  · exact .of_performs (exec_incPair p s) (.setPair_self s p (s.pair p + 1)) (by simp)
  · cases p <;> exact .of_encode rfl rfl
  · exact .of_performs (exec_decPair p s) (.setPair_self s p (s.pair p - 1)) (by simp)

end Sys2Proof.Machine
end

section
/-! PROOFS. The rotates, shifts and bit instructions (45_rotate_shift_bit.md rules R300 to R326): the model's shifts and masks as the rotations and
single bits of the rules, and the statements, whose effects are one update of A, of a register or of the byte at HL. -/

namespace Sys2Proof.Machine

/-! ### Rotates and shifts (R300 to R320) -/

/-- The model's shifts and masks are rotations of the byte, or of the nine bits C and byte (R305 to R320): the two plain shifts by arithmetic, the
others by trying every byte and carry. -/
theorem rotatedTo_shift8 (op : ShiftOp) (v : Byte) (c : Bool) : RotatedTo op v c (shift8 op v c).1 (shift8 op v c).2 := by
  cases op with
  | rlc  => exact ⟨by revert v c; decide, rfl⟩
  | rrc  => exact ⟨by revert v c; decide, rfl⟩
  | rl   => revert v c; simp only [RotatedTo, shift8]; decide
  | rr   => revert v c; simp only [RotatedTo, shift8]; decide
  | sla  => exact ⟨by simp only [shift8]; bv_omega, rfl⟩
  | sra  => exact ⟨by revert v c; decide, rfl⟩
  | swap => exact ⟨by revert v c; decide, rfl⟩
  | srl  => exact ⟨by simp only [shift8]; bv_omega, rfl⟩

theorem shiftFlags_eq (r : Byte) (c : Bool) : shiftFlags r c = { z := decide (r = 0), n := false, h := false, c := c } := by
  rw [shiftFlags, beq_eq_decide]

/-- A completion with a weaker condition on the next state. -/
theorem Runs.imp {i : Instr} {s : State} {w : Writes} {es : List BusEvent} {n : Nat} {post post' : State → Prop} (h : Runs i s w es n post)
    (hp : ∀ t, post t → post' t) : Runs i s w es n post' := by
  obtain ⟨t, he, hk, ha, hr, ht⟩ := h
  exact ⟨t, he, hk, ha, hr, hp t ht⟩

/-- An accumulator rotate writes A and F, with Z clear whatever the result. -/
theorem Runs.of_rotateAcc {i : Instr} {op : ShiftOp} {s : State} (he : exec i s = rotateAcc op s) :
    Runs i s { regs := [.a], f := true } [] 4
      (fun t => ∃ c', RotatedTo op s.a (s.f.getLsbD 4) t.a c' ∧ t.f = Flags.toByte { z := false, n := false, h := false, c := c' }) := by
  let x := shift8 op s.a (s.f.getLsbD 4)
  have written := Runs.of_setRegFlags (r := .a) (x := (x.1, accRotateFlags x.2)) he
  refine written.imp fun t ⟨ha, hf⟩ => ⟨x.2, ?_, hf⟩
  change t.a = x.1 at ha
  rw [ha]
  exact rotatedTo_shift8 op s.a _

/-- Settles O26: the four rows are one operation. -/
theorem accumulatorRotates : Obligations.AccumulatorRotates := by
  intro s i code op h
  simp only [List.mem_cons, Prod.mk.injEq, List.not_mem_nil, or_false] at h
  rcases h with ⟨rfl, rfl, rfl⟩ | ⟨rfl, rfl, rfl⟩ | ⟨rfl, rfl, rfl⟩ | ⟨rfl, rfl, rfl⟩
  · exact ⟨.of_encode rfl rfl, .of_rotateAcc (exec_rlca s)⟩
  · exact ⟨.of_encode rfl rfl, .of_rotateAcc (exec_rrca s)⟩
  · exact ⟨.of_encode rfl rfl, .of_rotateAcc (exec_rla s)⟩
  · exact ⟨.of_encode rfl rfl, .of_rotateAcc (exec_rra s)⟩

/-- Settles O27: the effect writes to the register and F what the shift computes. -/
theorem prefixedRotatesOfARegister : Obligations.PrefixedRotatesOfARegister := by
  intro s op r
  let x := shift8 op (s.reg r) (s.f.getLsbD 4)
  constructor
  · cases op <;> cases r <;> exact .of_encode rfl rfl
  · have written := Runs.of_setRegFlags (x := (x.1, shiftFlags x.1 x.2)) (exec_shiftReg op r s)
    refine written.imp fun t ⟨hr, hf⟩ => ⟨x.2, ?_, ?_⟩
    · rw [hr]
      exact rotatedTo_shift8 op (s.reg r) _
    · rw [hr, hf, shiftFlags_eq]

/-- Settles O28: the byte written at HL is what the shift computes of the byte read there. -/
theorem prefixedRotatesOfMemory : Obligations.PrefixedRotatesOfMemory := by
  intro s op a
  let x := shift8 op (s.peek a) (s.f.getLsbD 4)
  refine ⟨?_, x.1, x.2, rotatedTo_shift8 op (s.peek a) _, ?_⟩
  · cases op <;> exact .of_encode rfl rfl
  · rw [← shiftFlags_eq]
    exact .of_updateMemFlags (x := (x.1, shiftFlags x.1 x.2)) (exec_shiftInd op s)

/-! ### BIT (R321, R322) -/

/-- Settles O29: the effect writes F alone. -/
theorem bitTest : Obligations.BitTest := by
  intro s b a flags
  refine ⟨fun r => ⟨?_, .of_setFlags (exec_bitReg b r s)⟩, ?_, ?_⟩
  · cases b <;> cases r <;> exact .of_encode rfl rfl
  · cases b <;> exact .of_encode rfl rfl
  · have read : Performs { f := true } s (s.noteRead a) [.read a (s.peek a)] := (Performs.refl _ s).noteRead a
    exact .of_performs (exec_bitInd b s) (read.setF rfl _) (Flags.toByte_masked (bitFlags (s.peek a) b s.flags))

/-! ### RES and SET (R323 to R326) -/

theorem getLsbD_bitMask (b : BitIndex) {k : Nat} (hk : k < 8) : (bitMask b).getLsbD k = decide (k = b.toNat) := by
  have single : (bitMask b).getLsbD k = (decide (b.toNat < 8) && decide (b.toNat = k)) := BitVec.getLsbD_twoPow b.toNat k
  rw [single, ← Bool.decide_and, decide_eq_decide]
  omega

theorem withBit_reset (b : BitIndex) (v : Byte) : WithBit b false v (v &&& ~~~bitMask b) := by
  intro k hk
  rw [BitVec.getLsbD_and, BitVec.getLsbD_not, getLsbD_bitMask b hk]
  split <;> simp [*]

theorem withBit_set (b : BitIndex) (v : Byte) : WithBit b true v (v ||| bitMask b) := by
  intro k hk
  rw [BitVec.getLsbD_or, getLsbD_bitMask b hk]
  split <;> simp [*]

section
variable {i : Instr} {s : State} {v : Byte} {n : Nat}

/-- An instruction that writes a byte to a register and no flag. -/
theorem Runs.of_setReg {r : Reg8} (he : exec i s = .next ((s.setReg r v).done n)) :
    Runs i s { regs := [r] } [] n (fun t => t.reg r = v) :=
  .of_performs he ((Performs.refl _ s).setReg (List.mem_singleton_self r) v) (by simp)

/-- An instruction that reads a byte and writes one in its place, and no flag. -/
theorem Runs.of_updateMem {a : Word} (he : exec i s = .next (((s.noteRead a).memWrite a v).done n)) :
    Runs i s { stores := [a] } [.read a (s.peek a), .write a v] n (fun t => Stored t a v) := by
  have read : Performs { stores := [a] } s (s.noteRead a) _ := (Performs.refl _ s).noteRead a
  exact .of_performs he (read.memWrite (List.mem_singleton_self a) v) ((stored_memWrite (s.noteRead a) a v).congr rfl)

end

/-- Settles O30: the four effects are one update, of a register or of the byte at HL, by a mask of one bit. -/
theorem bitResetAndSet : Obligations.BitResetAndSet := by
  intro s b a
  refine ⟨fun r => ⟨?_, ?_⟩, ⟨?_, _, withBit_reset b (s.peek a), .of_updateMem (exec_resInd b s)⟩, fun r => ⟨?_, ?_⟩, ?_, _,
    withBit_set b (s.peek a), .of_updateMem (exec_setInd b s)⟩
  · cases b <;> cases r <;> exact .of_encode rfl rfl
  · exact (Runs.of_setReg (exec_resReg b r s)).imp fun t ht => ht ▸ withBit_reset b (s.reg r)
  · cases b <;> exact .of_encode rfl rfl
  · cases b <;> cases r <;> exact .of_encode rfl rfl
  · exact (Runs.of_setReg (exec_setReg b r s)).imp fun t ht => ht ▸ withBit_set b (s.reg r)
  · cases b <;> exact .of_encode rfl rfl

end Sys2Proof.Machine
end

section
/-! PROOFS. Control transfer (46_control.md rules R330 to R341; 60_exceptions.md rules R407, R413): the model's conditions and displacements as the
rules' own, the rules that carry a frame and its accesses through the writes of `pc` and `ime` and through a service, and the statements that are
their instances. -/

namespace Sys2Proof.Machine

/-! ### Conditions, displacements and restart targets (R330, R334, R341) -/

theorem holds_iff_cond (cc : Cond) (s : State) : Holds cc s ↔ s.cond cc = true := by
  cases cc <;> simp [Holds, State.cond, State.flags, Flags.ofByte]

section
variable {i : Instr} {s : State} {cc : Cond} {x y : Result}

/-- The branch that a conditional effect takes when its condition holds. -/
theorem exec_of_holds (he : exec i s = if s.cond cc then x else y) (h : Holds cc s) : exec i s = x :=
  he.trans (if_pos ((holds_iff_cond cc s).1 h))

/-- The branch that a conditional effect takes when its condition does not hold. -/
theorem exec_of_not_holds (he : exec i s = if s.cond cc then x else y) (h : ¬ Holds cc s) : exec i s = y :=
  he.trans (if_neg fun hc => h ((holds_iff_cond cc s).2 hc))

end

/-- The model's sum of words adds the displacement as a signed integer. -/
theorem add_sext16 (x : Word) (e : Byte) : x + sext16 e = BitVec.ofInt 16 (x.toNat + e.toInt) :=
  congrArg Prod.fst (addSigned_eq x e)

theorem RstTarget.addr_eq (t : RstTarget) : t.addr = BitVec.ofNat 16 (8 * t.code.toNat) := by cases t <;> rfl

/-- Every `y` field is a restart's (R95). -/
theorem RstTarget.code_surjective : Function.Surjective RstTarget.code := by
  have listed : ∀ y, ∃ t ∈ [RstTarget.t00, .t08, .t10, .t18, .t20, .t28, .t30, .t38], t.code = y := by decide
  exact fun y => (listed y).imp fun _ ht => ht.2

/-! ### The writes of `pc` and `ime` -/

namespace Performs

variable {w : Writes} {s t : State} {es : List BusEvent}

theorem jump (h : Performs w s t es) (hw : w.pc = true) (x : Word) : Performs w s (t.jump x) es :=
  h.silent ⟨fun r _ => State.reg_jump t x r, by simp [hw]⟩ rfl rfl

theorem setIme (h : Performs w s t es) (hw : w.ime = true) (b : Bool) : Performs w s { t with ime := b } es :=
  h.silent ⟨fun r _ => by cases r <;> rfl, by simp [hw, State.peek]⟩ rfl rfl

/-- A write of one bit is a read of its byte and then a write (R52). -/
theorem bitWrite (h : Performs w s t es) {a : Word} (ha : a ∈ w.stores) (m : Byte) (b : Bool) :
    Performs w s (t.bitWrite a m b) (es ++ [.read a (t.peek a), .write a (if b then t.peek a ||| m else t.peek a &&& ~~~m)]) :=
  h.trans (((refl w t).noteRead a).memWrite ha _)

theorem call (h : Performs w s t es) (hsp : w.sp = true) (hpc : w.pc = true) (hhi : t.sp - 1 ∈ w.stores) (hlo : t.sp - 2 ∈ w.stores) (x : Word) :
    Performs w s (t.call x) (es ++ [.write (t.sp - 1) (highByte t.pc), .write (t.sp - 2) (lowByte t.pc)]) :=
  (h.push16 hsp hhi hlo t.pc).jump hpc x

theorem popToPc (h : Performs w s t es) (hsp : w.sp = true) (hpc : w.pc = true) :
    Performs w s t.popToPc (es ++ [.read t.sp (t.peek t.sp), .read (t.sp + 1) ((t.noteRead t.sp).peek (t.sp + 1))]) :=
  (h.afterPop hsp).jump hpc t.topOfStack

theorem returnFromInterrupt (h : Performs w s t es) (hsp : w.sp = true) (hpc : w.pc = true) (hime : w.ime = true) :
    Performs w s t.returnFromInterrupt (es ++ [.read t.sp (t.peek t.sp), .read (t.sp + 1) ((t.noteRead t.sp).peek (t.sp + 1))]) :=
  (h.popToPc hsp hpc).setIme hime true

/-- Taking an interrupt clears `ime` and the source's bit of IF, pushes `pc` and loads the vector, in this order (R407). -/
theorem serviceInterrupt (h : Performs w s t es) (hsp : w.sp = true) (hpc : w.pc = true) (hime : w.ime = true) (hif : Config.ifAddr ∈ w.stores)
    (hhi : t.sp - 1 ∈ w.stores) (hlo : t.sp - 2 ∈ w.stores) (k : Source) :
    Performs w s (t.serviceInterrupt k)
      (es ++ [.read Config.ifAddr (t.peek Config.ifAddr), .write Config.ifAddr (t.peek Config.ifAddr &&& ~~~Config.sourceMask k),
        .write (t.sp - 1) (highByte t.pc), .write (t.sp - 2) (lowByte t.pc)]) :=
  h.trans ((((refl w t).setIme hime false).bitWrite hif (Config.sourceMask k) false).call hsp hpc hhi hlo (Config.sourceVector k))

end Performs

section
variable {i : Instr} {s : State} {x : Word} {n : Nat}

/-- An effect that returns its cycles and does nothing else: a condition that does not hold. -/
theorem Runs.of_done (he : exec i s = .next (s.done n)) : Runs i s {} [] n (fun _ => True) :=
  .of_performs he (.refl {} s) trivial

theorem Runs.of_jump (he : exec i s = .next ((s.jump x).done n)) : Runs i s { pc := true } [] n (fun t => t.pc = x) :=
  .of_performs he ((Performs.refl _ s).jump rfl x) rfl

theorem Calls.of_call (he : exec i s = .next ((s.call x).done n)) : Calls i s x n :=
  .of_performs he ((Performs.refl _ s).call rfl rfl (by simp) (by simp) x)
    ⟨rfl, rfl, (stored_push16_high s s.pc).congr rfl, (stored_push16_low s s.pc).congr rfl⟩

theorem Runs.of_popToPc (he : exec i s = .next (s.popToPc.done n)) :
    Runs i s { pc := true, sp := true } [.read s.sp (s.peek s.sp), .read (s.sp + 1) ((s.noteRead s.sp).peek (s.sp + 1))] n
      (fun t => t.pc = s.topOfStack ∧ t.sp = s.sp + 2) :=
  .of_performs he ((Performs.refl _ s).popToPc rfl rfl) ⟨rfl, rfl⟩

end

/-! ### Jumps, calls and returns (R331 to R341) -/

/-- Settles O31: each taken jump is one write of `pc`. -/
theorem jumps : Obligations.Jumps := by
  intro s jumps stays near
  have displaced (e : Byte) : near e = s.pc + sext16 e := (add_sext16 s.pc e).symm
  refine ⟨fun n => ⟨.of_encode rfl rfl, .of_jump (exec_jpN16 n s)⟩, fun cc n => ⟨?_, ?_, ?_⟩,
    ⟨.of_encode rfl rfl, .of_jump (exec_jpHl s)⟩, fun e => ⟨.of_encode rfl rfl, ?_⟩, fun cc e => ⟨?_, ?_, ?_⟩⟩
  · cases cc <;> exact .of_encode rfl rfl
  · exact fun h => .of_jump (exec_of_holds (exec_jpIf cc n s) h)
  · exact fun h => .of_done (exec_of_not_holds (exec_jpIf cc n s) h)
  · rw [displaced]
    exact .of_jump (exec_jrE8 e s)
  · cases cc <;> exact .of_encode rfl rfl
  · rw [displaced]
    exact fun h => .of_jump (exec_of_holds (exec_jrIf cc e s) h)
  · exact fun h => .of_done (exec_of_not_holds (exec_jrIf cc e s) h)

/-- Settles O32: a taken call and a restart are one push of `pc` and one write of it. -/
theorem callsAndRestarts : Obligations.CallsAndRestarts := by
  intro s
  refine ⟨fun n => ⟨.of_encode rfl rfl, .of_call (exec_callN16 n s)⟩, fun cc n => ⟨?_, ?_, ?_⟩, fun y => ?_⟩
  · cases cc <;> exact .of_encode rfl rfl
  · exact fun h => .of_call (exec_of_holds (exec_callIf cc n s) h)
  · exact fun h => .of_done (exec_of_not_holds (exec_callIf cc n s) h)
  · obtain ⟨t, rfl⟩ := RstTarget.code_surjective y
    rw [← RstTarget.addr_eq]
    refine ⟨t, ?_, .of_call (exec_rst t s)⟩
    cases t <;> exact .of_encode rfl rfl

/-- Settles O33: a taken return is one pop into `pc`. -/
theorem returns : Obligations.Returns := by
  intro s lo hi returns
  refine ⟨⟨.of_encode rfl rfl, .of_popToPc (exec_ret s)⟩, fun cc => ⟨?_, ?_, ?_⟩⟩
  · cases cc <;> exact .of_encode rfl rfl
  · exact fun h => .of_popToPc (exec_of_holds (exec_retIf cc s) h)
  · exact fun h => .of_done (exec_of_not_holds (exec_retIf cc s) h)

/-! ### RETI (R340, R413) -/

/-- Settles O34: the effect is one pop into `pc` and one write of `ime`. -/
theorem returnFromInterrupt : Obligations.ReturnFromInterrupt := by
  intro s lo hi
  have returned := (Performs.refl { pc := true, sp := true, ime := true } s).returnFromInterrupt rfl rfl rfl
  exact ⟨.of_encode rfl rfl, .of_performs (exec_reti s) returned ⟨rfl, rfl, rfl⟩⟩

/-- A frame that lets `sp` be written keeps it where its value is given back. -/
theorem KeepsAllBut.of_sp_eq {w : Writes} {s t : State} (h : KeepsAllBut w s t) (hsp : t.sp = s.sp) : KeepsAllBut { w with sp := false } s t := by
  obtain ⟨regs, f, -, rest⟩ := h
  exact ⟨regs, f, fun _ => hsp, rest⟩

theorem State.peek_serviceInterrupt_high {s : State} (h : s.mmu.isSimulator = true) (k : Source) :
    (s.serviceInterrupt k).peek (s.sp - 1#16) = highByte s.pc := by
  rw [State.peek_serviceInterrupt h, if_neg (word_sub_one_ne_sub_two s.sp), if_pos rfl]

theorem State.peek_serviceInterrupt_low {s : State} (h : s.mmu.isSimulator = true) (k : Source) :
    (s.serviceInterrupt k).peek (s.sp - 2#16) = lowByte s.pc := by
  rw [State.peek_serviceInterrupt h, if_pos rfl]

/-- With the simulator MMU a service leaves the `pc` that it interrupted on top of the stack (R407). -/
theorem State.topOfStack_serviceInterrupt {s : State} (h : s.mmu.isSimulator = true) (k : Source) : (s.serviceInterrupt k).topOfStack = s.pc := by
  have simulator : (s.serviceInterrupt k).mmu.isSimulator = true := by simpa using h
  have high : s.sp - 2 + 1 = s.sp - 1 := by bv_omega
  apply State.topOfStack_eq
  · rw [State.serviceInterrupt_sp]
    exact State.peek_serviceInterrupt_low h k
  · rw [State.peek_noteRead simulator, State.serviceInterrupt_sp, high]
    exact State.peek_serviceInterrupt_high h k

/-- Settles O53: the return pops where the service pushed, so `sp` is given back, and `pc` by an MMU that reads back what was written. -/
theorem returnRestoresWhatServiceSaved : Obligations.ReturnRestoresWhatServiceSaved := by
  intro s k
  let w : Writes := { sp := true, pc := true, ime := true, stores := [0xFF0F, s.sp - 1, s.sp - 2] }
  have serviced := (Performs.refl w s).serviceInterrupt rfl rfl rfl (List.mem_cons_self ..) (by simp [w]) (by simp [w]) k
  have returned := serviced.returnFromInterrupt rfl rfl rfl
  have spBack : (s.serviceInterrupt k).returnFromInterrupt.sp = s.sp := by simp
  exact ⟨_, exec_reti _, (returned.frame.of_sp_eq spBack).done 16, rfl, fun hs => State.topOfStack_serviceInterrupt hs k⟩

end Sys2Proof.Machine
end

section
/-! PROOFS. The system instructions (47_system.md rules R350 to R354; 70_reset_and_hazards.md rules R450 to R452): the rule that carries a frame through
a write of `halted`, the call that a raised fault ends, the statements, and what launch and reset give. -/

namespace Sys2Proof.Machine

/-! ### NOP, HALT, DI and EI (R350, R351, R353, R354) -/

/-- A write of `halted` is no access, and writes nothing else. -/
theorem Performs.setHalted {w : Writes} {s t : State} {es : List BusEvent} (h : Performs w s t es) (hw : w.halted = true) (b : Bool) :
    Performs w s { t with halted := b } es :=
  h.silent ⟨fun r _ => by cases r <;> rfl, by simp [hw, State.peek]⟩ rfl rfl

/-- Settles O35: NOP returns its cycles alone, and each of the others is one write of `halted` or `ime`. -/
theorem systemInstructions : Obligations.SystemInstructions := by
  intro s
  have halt := (Performs.refl { halted := true } s).setHalted rfl true
  have setIme := (Performs.refl { ime := true } s).setIme rfl
  refine ⟨⟨.of_encode rfl rfl, .of_done (exec_nop s)⟩, ⟨.of_encode rfl rfl, ?_⟩, ⟨.of_encode rfl rfl, ?_⟩, ⟨.of_encode rfl rfl, ?_⟩⟩
  · exact .of_performs (exec_halt s) halt rfl
  · exact .of_performs (exec_di s) (setIme false) rfl
  · exact .of_performs (exec_ei s) (setIme true) rfl

/-! ### STOP (R352) -/

/-- A running call whose effect raises a fault ends with that fault (R111). -/
theorem step_of_raise {s : State} {p : ParsedInstruction} {x : Fault} (hf : s.fault = none) (hh : s.halted = false) (hn : s.next = some p)
    (he : exec p.instr (s.beginCall.promote p) = .next ((s.beginCall.promote p).raise x)) :
    step s = .next ((s.beginCall.promote p).raise x) := by
  have called : step s = s.executeNext referenceTables p := cycle_of_next hf hn
  rw [called, State.executeNext_of_running hh, runEffect_referenceTables, he]
  exact congrArg Host.Outcome.next (State.afterEffect_of_fault (Option.some_ne_none x))

theorem exec_stop_of_current {s : State} {p : ParsedInstruction} (hc : s.current = some p) (n : Byte) :
    exec (.stop n) s = .next (s.raise (.unmodelled p.addr 0x10)) := by
  rw [exec_stop, State.currentAddr_of_current hc]

/-- Settles O36: the effect raises with the address of `current`, which in a call is the record promoted from the lookahead. -/
theorem stopRaisesUnmodelled : Obligations.StopRaisesUnmodelled := by
  intro s p n
  refine ⟨.of_encode rfl rfl, rfl, fun hc => exec_stop_of_current hc n, fun hf hh hn hi hl => ?_⟩
  have raises : exec p.instr (s.beginCall.promote p) = .next ((s.beginCall.promote p).raise (.unmodelled p.addr 0x10)) := by
    rw [hi]
    exact exec_stop_of_current rfl n
  rw [step_of_raise hf hh hn raises]
  simp [State.raise, State.promote, State.beginCall, hl]

/-! ### Launch and reset (R450 to R452) -/

/-- Settles O54: the statement is the definition of `State.launch`, field by field. -/
theorem launchState : Obligations.LaunchState := fun _ _ => rfl

/-- Settles O55: a memory that lists nothing answers the unlisted byte everywhere. -/
theorem resetTakesThePostBootProfile : Obligations.ResetTakesThePostBootProfile := by
  have registers : State.reset.readRegisters = { af := 0x01B0, bc := 0x0013, de := 0x00D8, hl := 0x014D, sp := 0xFFFE, pc := 0x0100 } := by
    decide
  exact ⟨registers, fun _ => rfl⟩

end Sys2Proof.Machine
end

section
/-! PROOFS. The interrupt controller (60_exceptions.md rules R400 to R409): with the simulator MMU the scan is a search of the priority order, with the
reads of the sources it tries; and what a service leaves of the bits of every source. -/

namespace Sys2Proof.Machine

/-! ### The scan with the simulator MMU (R404) -/

/-- The reads by which the scan tries one source: the IE bit, and the IF bit of an enabled one (R404). -/
def State.sourceReads (s : State) (k : Source) : List BusEvent :=
  .read Config.ieAddr (s.peek Config.ieAddr) ::
    if s.bitRead Config.ieAddr (Config.sourceMask k) then [.read Config.ifAddr (s.peek Config.ifAddr)] else []

/-- The reads of a scan that tries the sources up to the first firable one (R404, D25). -/
def State.scanReads (s : State) (l : List Source) : List BusEvent :=
  (l.takeWhile (fun k => !s.firable k) ++ (l.find? s.firable).toList).flatMap s.sourceReads

/-- The state after the scan of the five sources. -/
def State.polled (s : State) : State := { s with trace := s.trace ++ s.scanReads Source.inPriorityOrder }

theorem State.scanReads_cons_of_firable {s : State} {k : Source} {l : List Source} (h : s.firable k = true) :
    s.scanReads (k :: l) = s.sourceReads k := by
  simp [State.scanReads, h]

theorem State.scanReads_cons_of_not_firable {s : State} {k : Source} {l : List Source} (h : s.firable k = false) :
    s.scanReads (k :: l) = s.sourceReads k ++ s.scanReads l := by
  simp [State.scanReads, h]

theorem State.noteRead_of_simulator {s : State} (h : s.mmu.isSimulator = true) (a : Word) :
    s.noteRead a = { s with trace := s.trace ++ [.read a (s.peek a)] } := by
  rw [State.noteRead, Mmu.afterRead_of_simulator h]

/-- One step of the scan: the tried source's reads, and the end of the scan if it is firable. -/
theorem scanSources_cons_of_simulator {s : State} (h : s.mmu.isSimulator = true) (k : Source) (l : List Source) :
    scanSources (k :: l) s =
      if s.firable k then (some k, { s with trace := s.trace ++ s.sourceReads k })
      else scanSources l { s with trace := s.trace ++ s.sourceReads k } := by
  have h' : (s.noteRead Config.ieAddr).mmu.isSimulator = true := by simpa using h
  rw [scanSources, State.bitRead_noteRead h, State.noteRead_of_simulator h', State.peek_noteRead h, State.noteRead_of_simulator h]
  unfold State.firable State.sourceReads
  cases s.bitRead Config.ieAddr (Config.sourceMask k)
  · rfl
  · simp only [Bool.true_and, if_true, List.append_assoc]
    rfl

/-- With the simulator MMU the scan answers the first firable source, and makes the reads of the sources it tried. -/
theorem scanSources_of_simulator {s : State} (h : s.mmu.isSimulator = true) (l : List Source) :
    scanSources l s = (l.find? s.firable, { s with trace := s.trace ++ s.scanReads l }) := by
  induction l generalizing s with
  | nil => simp [scanSources, State.scanReads]
  | cons k l ih =>
    rw [scanSources_cons_of_simulator h]
    cases hk : s.firable k with
    | true => rw [if_pos rfl, List.find?_cons_of_pos hk, State.scanReads_cons_of_firable hk]
    | false =>
      rw [if_neg Bool.false_ne_true, ih (s := { s with trace := s.trace ++ s.sourceReads k }) h, List.find?_cons_of_neg (by simp [hk]),
        State.scanReads_cons_of_not_firable hk, ← List.append_assoc]
      rfl

/-! ### What the controller does with the simulator MMU (R404 to R407) -/

section
variable {s : State} {k : Source} (h : s.mmu.isSimulator = true)
include h

theorem handleInterrupts_of_none (hk : Source.inPriorityOrder.find? s.firable = none) : handleInterrupts s = (false, s.polled) := by
  rw [handleInterrupts, scanSources_of_simulator h, hk]
  rfl

/-- With `ime` clear the selected source wakes the core and nothing is serviced (R405, R406). -/
theorem handleInterrupts_of_wake (hk : Source.inPriorityOrder.find? s.firable = some k) (hi : s.ime = false) :
    handleInterrupts s = (false, s.polled.wake) := by
  rw [handleInterrupts, scanSources_of_simulator h, hk]
  exact if_neg (by simp [hi])

theorem handleInterrupts_of_service (hk : Source.inPriorityOrder.find? s.firable = some k) (hi : s.ime = true) :
    handleInterrupts s = (true, s.polled.wake.serviceInterrupt k) := by
  rw [handleInterrupts, scanSources_of_simulator h, hk]
  exact if_pos hi

end

/-- Settles O49: the listed sources are the priority order with its masks, so their search and their reads are the scan's. -/
theorem controllerSelectsTheFirstFirableSource : Obligations.ControllerSelectsTheFirstFirableSource := by
  intro s
  constructor
  · intro h sources enabled firable selected tried reads u
    have masks : sources = Source.inPriorityOrder.map fun k => (k, Config.sourceMask k) := rfl
    have selected_eq : selected = (Source.inPriorityOrder.find? s.firable).map fun k => (k, Config.sourceMask k) :=
      List.find?_map (f := fun k => (k, Config.sourceMask k)) (l := Source.inPriorityOrder) (p := firable)
    have reads_eq : reads = s.scanReads Source.inPriorityOrder := by
      simp only [reads, tried]
      rw [selected_eq, masks, List.takeWhile_map, Option.toList_map, ← List.map_append, List.flatMap_map]
      rfl
    have polled : u = s.polled := by
      simp only [u, reads_eq]
      rfl
    rw [selected_eq, polled]
    cases hk : Source.inPriorityOrder.find? s.firable with
    | none => exact handleInterrupts_of_none h hk
    | some k =>
      cases hi : s.ime with
      | false => exact handleInterrupts_of_wake h hk hi
      | true => exact handleInterrupts_of_service h hk hi
  · obtain ⟨es, hes, ⟨-, nothing⟩ | ⟨k, -, hi, wakes⟩ | ⟨k, -, hi, services⟩⟩ := handleInterrupts_cases s
    · exact ⟨es, hes, .inl nothing⟩
    · exact ⟨es, hes, .inr (.inl ⟨hi, wakes⟩)⟩
    · exact ⟨es, hes, .inr (.inr ⟨hi, k, services⟩)⟩

/-! ### The table of R400 -/

/-- A row of the table of R400. -/
def sourceRow (k : Source) : Source × Byte × Word := (k, Config.sourceMask k, Config.sourceVector k)

/-- A source has one row. -/
theorem eq_of_mem_rows {k : Source} {m : Byte} {v : Word} (h : (k, m, v) ∈ Source.inPriorityOrder.map sourceRow) :
    Config.sourceMask k = m ∧ Config.sourceVector k = v := by
  obtain ⟨j, -, hj⟩ := List.mem_map.1 h
  cases hj
  exact ⟨rfl, rfl⟩

/-- The first row with a property is the row of the first source that has it. -/
theorem find_of_find_rows {p : Source × Byte × Word → Bool} {k : Source} {m : Byte} {v : Word}
    (h : (Source.inPriorityOrder.map sourceRow).find? p = some (k, m, v)) :
    Source.inPriorityOrder.find? (p ∘ sourceRow) = some k ∧ Config.sourceMask k = m ∧ Config.sourceVector k = v := by
  rw [List.find?_map] at h
  obtain ⟨j, hj, row⟩ := Option.map_eq_some_iff.1 h
  cases row
  exact ⟨hj, rfl, rfl⟩

/-! ### Service (R407) -/

/-- The IF bit is cleared before the push, so a push elsewhere leaves IF cleared. -/
theorem State.peek_serviceInterrupt_if {s : State} (h : s.mmu.isSimulator = true) (h1 : s.sp - 1#16 ≠ 0xFF0F)
    (h2 : s.sp - 2#16 ≠ 0xFF0F) (k : Source) :
    (s.serviceInterrupt k).peek 0xFF0F = s.peek 0xFF0F &&& ~~~Config.sourceMask k := by
  rw [State.peek_serviceInterrupt h, if_neg (Ne.symm h2), if_neg (Ne.symm h1)]
  exact if_pos rfl

theorem State.peek_serviceInterrupt_other {s : State} (h : s.mmu.isSimulator = true) {x : Word} (h1 : x ≠ s.sp - 1#16) (h2 : x ≠ s.sp - 2#16)
    (hif : x ≠ Config.ifAddr) (k : Source) : (s.serviceInterrupt k).peek x = s.peek x := by
  rw [State.peek_serviceInterrupt h, if_neg h2, if_neg h1, if_neg hif]

/-- The scan and the wake write `halted` and no other part of the core state. -/
theorem keepsAllBut_polled_wake {w : Writes} (s : State) (hw : w.halted = true) : KeepsAllBut w s s.polled.wake :=
  ⟨fun r _ => by cases r <;> rfl, fun _ => rfl, fun _ => rfl, fun _ => rfl, fun _ => rfl, fun hf => by simp [hw] at hf, fun _ _ _ => rfl, rfl, rfl,
    rfl, rfl⟩

theorem mem_scanReads {s : State} {l : List Source} {e : BusEvent} (h : e ∈ s.scanReads l) : ∃ a v, e = .read a v := by
  obtain ⟨k, -, he⟩ := List.mem_flatMap.1 h
  unfold State.sourceReads at he
  split at he <;> simp only [List.mem_cons, List.not_mem_nil, or_false] at he
  · rcases he with rfl | rfl <;> exact ⟨_, _, rfl⟩
  · exact ⟨_, _, he⟩

/-- Settles O50: the service is one write of `ime`, one bit write and one call; the controller services the first row whose source is firable. -/
theorem serviceOfTheSelectedSource : Obligations.ServiceOfTheSelectedSource := by
  unfold Obligations.ServiceOfTheSelectedSource
  intro table
  refine ⟨fun s k m v row => ?_, fun s k m v h hi first => ?_⟩
  · obtain ⟨rfl, rfl⟩ := eq_of_mem_rows row
    intro t cleared
    have simulator (ht : t.mmu.isSimulator = true) : s.mmu.isSimulator = true := by simpa [t] using ht
    obtain ⟨frame, accesses⟩ := (Performs.refl { sp := true, pc := true, ime := true, stores := [0xFF0F, s.sp - 1, s.sp - 2] } s).serviceInterrupt
      rfl rfl rfl (List.mem_cons_self ..) (by simp) (by simp) k
    refine ⟨frame, State.serviceInterrupt_ime .., State.serviceInterrupt_pc .., State.serviceInterrupt_sp .., State.serviceInterrupt_result ..,
      fun ht => ?_, fun ht => ?_, fun h1 h2 ht => ?_, accesses⟩
    · exact State.peek_serviceInterrupt_high (simulator ht) k
    · exact State.peek_serviceInterrupt_low (simulator ht) k
    · exact State.peek_serviceInterrupt_if (simulator ht) h1 h2 k
  · obtain ⟨hk, rfl, rfl⟩ := find_of_find_rows first
    intro cleared
    obtain ⟨frame, ⟨traced, -⟩⟩ :=
      (Performs.refl { sp := true, pc := true, ime := true, halted := true, stores := [0xFF0F, s.sp - 1, s.sp - 2] } s.polled.wake).serviceInterrupt
        rfl rfl rfl (List.mem_cons_self ..) (by simp [State.polled]) (by simp [State.polled]) k
    refine ⟨_, s.scanReads Source.inPriorityOrder, handleInterrupts_of_service h hk hi, (keepsAllBut_polled_wake s rfl).trans frame rfl,
      State.serviceInterrupt_ime .., State.serviceInterrupt_halted .., State.serviceInterrupt_pc .., State.serviceInterrupt_sp .., ?_, ?_,
      fun h1 h2 => ?_, fun _ => mem_scanReads, traced⟩
    · exact State.peek_serviceInterrupt_high (s := s.polled.wake) h k
    · exact State.peek_serviceInterrupt_low (s := s.polled.wake) h k
    · exact State.peek_serviceInterrupt_if (s := s.polled.wake) h h1 h2 k

/-! ### The other sources (R409) -/

/-- Clearing one source's bit leaves the test of every other source. -/
theorem and_not_sourceMask_and_sourceMask (k j : Source) (v : Byte) :
    ((v &&& ~~~Config.sourceMask k) &&& Config.sourceMask j != 0) = (decide (j ≠ k) && (v &&& Config.sourceMask j != 0)) := by
  revert v; cases k <;> cases j <;> decide

/-- With the simulator MMU and a push off IE and IF, a service takes the firability of its source and keeps that of the others. -/
theorem State.firable_serviceInterrupt {s : State} (h : s.mmu.isSimulator = true)
    (off : ∀ a, a ∈ [s.sp - 1, s.sp - 2] → a ≠ 0xFFFF ∧ a ≠ 0xFF0F) (k j : Source) :
    (s.serviceInterrupt k).firable j = (decide (j ≠ k) && s.firable j) := by
  obtain ⟨highIe, highIf⟩ := off (s.sp - 1#16) (by simp)
  obtain ⟨lowIe, lowIf⟩ := off (s.sp - 2#16) (by simp)
  have ie : (s.serviceInterrupt k).peek Config.ieAddr = s.peek Config.ieAddr :=
    State.peek_serviceInterrupt_other h highIe.symm lowIe.symm (by decide) k
  have cleared : (s.serviceInterrupt k).peek Config.ifAddr = s.peek Config.ifAddr &&& ~~~Config.sourceMask k :=
    State.peek_serviceInterrupt_if h highIf lowIf k
  simp only [State.firable, State.bitRead, ie, cleared, and_not_sourceMask_and_sourceMask, Bool.and_left_comm]

/-- Settles O51: the serviced source is the scan's, and the table's tests are the firability of its sources. -/
theorem lowerPrioritySourcesStayPending : Obligations.LowerPrioritySourcesStayPending := by
  unfold Obligations.LowerPrioritySourcesStayPending
  intro table firable s k m v h hi first off
  obtain ⟨hk, rfl, rfl⟩ := find_of_find_rows first
  have after (j : Source) : (s.polled.wake.serviceInterrupt k).firable j = (decide (j ≠ k) && s.firable j) :=
    State.firable_serviceInterrupt (s := s.polled.wake) h off k j
  have serviced : (s.polled.wake.serviceInterrupt k).firable k = false := (after k).trans (by simp)
  have others (j : Source) (hj : j ≠ k) : (s.polled.wake.serviceInterrupt k).firable j = s.firable j := (after j).trans (by simp [hj])
  refine ⟨_, handleInterrupts_of_service h hk hi, State.serviceInterrupt_pc .., serviced, serviced, fun x row hx => ?_, others⟩
  obtain ⟨j, n, u⟩ := x
  obtain ⟨rfl, rfl⟩ := eq_of_mem_rows row
  exact others j hx

end Sys2Proof.Machine
end

section
/-! PROOFS. How a run ends (70_reset_and_hazards.md rules R459, R464; 60_exceptions.md rules R416, R424): the conditions of a normal end source by source,
that a call keeps them, and the outcome of a run as the first number of events after which it has ended. -/

namespace Sys2Proof.Machine

/-! ### The conditions of a normal end (R464) -/

/-- The bit of IE and of IF that a source has (R400). -/
def sourceBit : Source → Nat
  | .vblank  => 0
  | .lcdStat => 1
  | .timer   => 2
  | .serial  => 3
  | .joypad  => 4

theorem and_sourceMask_ne_zero (k : Source) (v : Byte) : (v &&& Config.sourceMask k != 0) = v.getLsbD (sourceBit k) := by
  revert v; cases k <;> decide

/-- The five low bits of a byte are the sources' bits. -/
theorem and_sources_eq_zero_iff (v : Byte) : v &&& 0x1F = 0 ↔ ∀ k : Source, v.getLsbD (sourceBit k) = false := by
  have listed : v &&& 0x1F = 0 ↔ ∀ k ∈ Source.inPriorityOrder, v.getLsbD (sourceBit k) = false := by revert v; decide
  exact listed.trans ⟨fun h k => h k (by cases k <;> decide), fun h k _ => h k⟩

/-- A source is firable exactly if its bit of `IE & IF` is set (R403). -/
theorem State.firable_eq_getLsbD (s : State) (k : Source) : s.firable k = (s.peek Config.ieAddr &&& s.peek Config.ifAddr).getLsbD (sourceBit k) := by
  simp only [State.firable, State.bitRead, and_sourceMask_ne_zero, BitVec.getLsbD_and]

theorem State.pendingEnabled_eq_zero_iff (s : State) : s.pendingEnabled = 0 ↔ ∀ k, s.firable k = false := by
  simp only [State.firable_eq_getLsbD]
  exact and_sources_eq_zero_iff _

theorem State.endedNormally_iff (s : State) : s.endedNormally = true ↔ s.fault = none ∧ s.halted = true ∧ ∀ k, s.firable k = false := by
  simp only [State.endedNormally, Bool.and_eq_true, Option.isNone_iff_eq_none, beq_iff_eq, State.pendingEnabled_eq_zero_iff, and_assoc]

/-- An unfaulted core has not ended normally exactly if a halt of it has a source to wake it. -/
theorem State.not_endedNormally_iff {s : State} (h : s.fault = none) :
    ¬ s.endedNormally = true ↔ (s.halted = true → ∃ k, s.firable k = true) := by
  simp [State.endedNormally_iff, h]

/-- With the simulator MMU a call on an ended core polls the sources, selects none, and demotes the run mode (R424). -/
theorem cycle_of_endedNormally {T : InstrTables} {s : State} {p : ParsedInstruction} (h : s.mmu.isSimulator = true) (hn : s.next = some p)
    (he : s.endedNormally = true) : cycle T s = .next s.beginCall.polled.demote := by
  obtain ⟨hf, hh, quiet⟩ := s.endedNormally_iff.1 he
  have polls : handleInterrupts s.beginCall = (false, s.beginCall.polled) := handleInterrupts_of_none h ((find_none_iff s.beginCall).2 quiet)
  rw [cycle_of_halted hf hn hh, State.finishCall_of_false polls]

/-! ### The end of a run (R464) -/

/-- The last of the first `n` events is a call. -/
def lastIsCall (events : List RunMove) : Nat → Bool
  | 0     => false
  | n + 1 => events[n]? == some .call

theorem lastIsCall_iff (events : List RunMove) (n : Nat) : lastIsCall events n = true ↔ ∃ m, n = m + 1 ∧ events[m]? = some .call := by
  cases n <;> simp [lastIsCall]

/-- How a run that has not ended earlier ends after its first `n` events, and what is observed then; none if it goes on. -/
def runEndAt (T : InstrTables) (s : State) (events : List RunMove) (n : Nat) : Option (RunEnd × Observation) :=
  let t := playMoves T s (events.take n)
  if t.goneWrong then some (.wrong, t.observe)
  else if lastIsCall events n && t.endedNormally then some (.normal, t.observe)
  else none

section
variable {T : InstrTables} {s : State}

/-- Whether the events after the first lead to an end is a question about the run from the state after the first, unless that ends it itself. -/
theorem runEndAt_cons_succ {x : RunMove} {xs : List RunMove} (h : ¬ (x = .call ∧ (playMove T s x).endedNormally = true)) (n : Nat) :
    runEndAt T s (x :: xs) (n + 1) = runEndAt T (playMove T s x) xs n := by
  cases n with
  | zero => simp [runEndAt, lastIsCall, h]
  | succ n => simp [runEndAt, lastIsCall]

/-- A run's outcome is its end after the first number of events after which it has one. -/
theorem runOutcome_eq_find (T : InstrTables) (s : State) (events : List RunMove) :
    runOutcome T s events = ((List.range (events.length + 1)).find? fun n => (runEndAt T s events n).isSome).bind (runEndAt T s events) := by
  induction events generalizing s with
  | nil => cases hg : s.goneWrong <;> simp [runOutcome, runEndAt, lastIsCall, hg]
  | cons x xs ih =>
    rw [List.length_cons, List.range_succ_eq_map]
    rcases runOutcome_cons_cases T s x xs with ⟨hg, ho⟩ | ⟨hg, rfl, he, ho⟩ | ⟨hg, hn, ho⟩ <;> rw [ho]
    · simp [runEndAt, hg]
    · have first : runEndAt T s (.call :: xs) 0 = none := by simp [runEndAt, lastIsCall, hg]
      have second : runEndAt T s (.call :: xs) 1 = some (.normal, (playMove T s .call).observe) := by
        obtain ⟨hf, -⟩ := (State.endedNormally_iff _).1 he
        simp [runEndAt, lastIsCall, he, State.goneWrong, hf]
      rw [List.range_succ_eq_map]
      simp [first, second]
    · have first : runEndAt T s (x :: xs) 0 = none := by simp [runEndAt, lastIsCall, hg]
      have later : runEndAt T s (x :: xs) ∘ Nat.succ = runEndAt T (playMove T s x) xs := funext (runEndAt_cons_succ hn)
      rw [List.find?_cons_of_neg (by simp [first]), List.find?_map, Option.bind_map, later, ih, ← later]
      rfl

/-- A run has ended exactly if there is a first number of events after which it has. -/
theorem runOutcome_eq_some_iff {events : List RunMove} {r : RunEnd × Observation} :
    runOutcome T s events = some r ↔
      ∃ n, n ≤ events.length ∧ (∀ m, m < n → runEndAt T s events m = none) ∧ runEndAt T s events n = some r := by
  rw [runOutcome_eq_find, Option.bind_eq_some_iff]
  refine exists_congr fun n => ?_
  rw [List.find?_range_eq_some]
  constructor
  · rintro ⟨⟨-, hn, before⟩, hr⟩
    exact ⟨Nat.lt_succ_iff.1 (List.mem_range.1 hn), by simpa using before, hr⟩
  · rintro ⟨hn, before, hr⟩
    exact ⟨⟨by simp [hr], List.mem_range.2 (Nat.lt_succ_iff.2 hn), by simpa using before⟩, hr⟩

theorem runOutcome_eq_none_iff {events : List RunMove} :
    runOutcome T s events = none ↔ ∀ n, n ≤ events.length → runEndAt T s events n = none := by
  have found_ends : (List.range (events.length + 1)).find? (fun n => (runEndAt T s events n).isSome) = none ↔ runOutcome T s events = none := by
    rw [runOutcome_eq_find, Option.bind_eq_none_iff]
    constructor
    · intro h n hn
      simp [h] at hn
    · intro h
      refine Option.eq_none_iff_forall_ne_some.2 fun n hn => ?_
      have ends := List.find?_some hn
      simp [h n hn] at ends
  rw [← found_ends, List.find?_range_eq_none]
  simp

/-- A number of events does not end a run exactly if it left no fault, and no normal end by a call. -/
theorem runEndAt_eq_none_iff {events : List RunMove} {n : Nat} :
    runEndAt T s events n = none ↔
      (playMoves T s (events.take n)).fault = none ∧
        ¬ (lastIsCall events n = true ∧ (playMoves T s (events.take n)).endedNormally = true) := by
  unfold runEndAt
  cases hf : (playMoves T s (events.take n)).fault <;> simp [State.goneWrong, hf]

/-- A number of events ends a run as wrong with a fault, or as normal by a call that left those conditions. -/
theorem runEndAt_eq_some_iff {events : List RunMove} {n : Nat} {e : RunEnd} {o : Observation} :
    runEndAt T s events n = some (e, o) ↔
      (e = .wrong ∧ (playMoves T s (events.take n)).fault ≠ none ∨
        e = .normal ∧ lastIsCall events n = true ∧ (playMoves T s (events.take n)).endedNormally = true) ∧
      o = (playMoves T s (events.take n)).observe := by
  unfold runEndAt
  cases hf : (playMoves T s (events.take n)).fault with
  | none => simp [State.goneWrong, hf, and_assoc, and_left_comm, @eq_comm _ RunEnd.normal, @eq_comm _ _ o]
  | some x => simp [State.goneWrong, State.endedNormally, hf, @eq_comm _ RunEnd.wrong, @eq_comm _ _ o]

/-! ### Hangs (R459) -/

theorem take_firstMoves (events : Nat → RunMove) {m n : Nat} (h : m ≤ n) : (firstMoves events n).take m = firstMoves events m := by
  rw [firstMoves, ← List.map_take, List.take_range, Nat.min_eq_left h]
  rfl

theorem getElem?_firstMoves (events : Nat → RunMove) {m n : Nat} (h : m < n) : (firstMoves events n)[m]? = some (events m) := by
  rw [firstMoves, List.getElem?_map, List.getElem?_range h]
  rfl

theorem lastIsCall_firstMoves_succ (events : Nat → RunMove) {m n : Nat} (h : m < n) :
    lastIsCall (firstMoves events n) (m + 1) = true ↔ events m = .call := by
  simp [lastIsCall, getElem?_firstMoves events h]

/-- A run hangs exactly if no number of its events leaves a fault, and none of its calls leaves a normal end. -/
theorem runHangs_iff {events : Nat → RunMove} :
    RunHangs T s events ↔
      ∀ n, (playMoves T s (firstMoves events n)).fault = none ∧
        ¬ (events n = .call ∧ (playMoves T s (firstMoves events (n + 1))).endedNormally = true) := by
  have atLength (n : Nat) : n ≤ (firstMoves events n).length := by simp [firstMoves]
  simp only [RunHangs, runOutcome_eq_none_iff, runEndAt_eq_none_iff]
  constructor
  · intro going n
    obtain ⟨unfaulted, -⟩ := going n n (atLength n)
    obtain ⟨-, notEnded⟩ := going (n + 1) (n + 1) (atLength (n + 1))
    rw [take_firstMoves events le_rfl] at unfaulted notEnded
    rw [lastIsCall_firstMoves_succ events n.lt_succ_self] at notEnded
    exact ⟨unfaulted, notEnded⟩
  · intro going n m hm
    have hmn : m ≤ n := by simpa [firstMoves] using hm
    rw [take_firstMoves events hmn]
    refine ⟨(going m).1, ?_⟩
    cases m with
    | zero => simp [lastIsCall]
    | succ m =>
      rw [lastIsCall_firstMoves_succ events hmn]
      exact (going m).2

end

/-- Settles O59: an ended core's call is the poll of the sources and the demotion; a run's outcome is its end after the first number of events that
has one, and a run that hangs has none. -/
theorem normalEndIsStable : Obligations.NormalEndIsStable := by
  refine ⟨fun s => ⟨s.endedNormally_iff, fun p h hn he => ?_⟩, ?_, ?_⟩
  · refine ⟨_, cycle_of_endedNormally h hn he, he, rfl, ?_⟩
    exact ⟨fun r _ => by cases r <;> rfl, fun _ => rfl, fun _ => rfl, fun _ => rfl, fun _ => rfl, fun _ => rfl, fun _ _ _ => rfl, rfl, rfl, rfl, rfl⟩
  · intro T s events e o after wrong normal
    have normal_iff (n : Nat) : normal n ↔ lastIsCall events n = true ∧ (after n).endedNormally = true := by
      rw [lastIsCall_iff, State.endedNormally_iff]
    simp only [normal_iff, wrong, not_not]
    rw [runOutcome_eq_some_iff]
    simp only [runEndAt_eq_none_iff, runEndAt_eq_some_iff]
    rfl
  · intro T s events after
    rw [runHangs_iff, forall_and, forall_and]
    refine and_congr_right fun unfaulted => forall_congr' fun n => ?_
    rw [not_and, State.not_endedNormally_iff (unfaulted (n + 1))]

end Sys2Proof.Machine
end
